-- ==== Sys2Proof/Word.lean ====
section
/-! DEFINITION. The two carriers of the block (00_scope.md R8, R11): `u8` and `u16`. Their arithmetic is `BitVec`'s, which wraps
modulo 256 and 65536 as R13 says. -/

namespace Sys2Proof

/-- `u8`: a register, a memory cell, an immediate, a port. -/
abbrev Byte := BitVec 8

/-- `u16`: PC, SP, a register pair, an address. -/
abbrev Word := BitVec 16

end Sys2Proof
end

