-- ==== Sys2Proof/Machine/Bits.lean ====
section
/-! DEFINITION. The bit-field notation of 00_scope.md R12: `hi8`, `lo8`, `cat`, `v[i]`, `popcount`. -/

namespace Sys2Proof

/-- `hi8(w) = w[15:8]`. -/
def hi8 (w : Word) : Byte := w.extractLsb' 8 8

/-- `lo8(w) = w[7:0]`. -/
def lo8 (w : Word) : Byte := w.extractLsb' 0 8

/-- `cat(h, l) = h * 256 + l`. -/
def cat (h l : Byte) : Word := h ++ l

/-- `v[i]`, bit `i` of a byte. -/
def bitOf (v : Byte) (i : Nat) : Bool := v.getLsbD i

/-- `popcount(v)`, the number of 1 bits. -/
def popcount (v : Byte) : Nat :=
  (bitOf v 0).toNat + (bitOf v 1).toNat + (bitOf v 2).toNat + (bitOf v 3).toNat +
  (bitOf v 4).toNat + (bitOf v 5).toNat + (bitOf v 6).toNat + (bitOf v 7).toNat

end Sys2Proof
end

