-- ==== Sys2Proof/Config.lean ====
section
/-! DEFINITION. The parameters of 00_scope.md R9 a model takes as arguments, and the free values (R9's oracles). -/

namespace Sys2Proof

/-- The two parameters of R9 that the host or the implementation fixes (entry 5). `stepLimit` is `STEP_LIMIT`, `andAc` is `AND_AC`. -/
structure Params where
  stepLimit : Option Nat
  andAc : Bool
  deriving DecidableEq, Repr

/-- The values R9 gives this hardware: no step limit (unless the host configures one), `AND_AC` = 0. -/
def Params.hardware : Params := ⟨none, false⟩

namespace Config

/-- `IoRead(port)`: the byte the `n`-th draw finds at `port` (20_memory.md R90). A FREE VALUE: no body, no law (entry 4). -/
opaque ioRead : Nat → Byte → Byte

/-- `SidRead()`: the SID pin level at the `n`-th draw (R9, 45_stack_io_control.md R292). A FREE VALUE (entry 4). -/
opaque sidRead : Nat → Bool

/-- `PswFill()`: bits 5, 3 and 1 of the flag byte PUSH PSW writes at the `n`-th draw (R9, R281). A FREE VALUE (entry 4). -/
opaque pswFill : Nat → BitVec 3

end Config

end Sys2Proof
end

