-- ==== Sys2Proof/Machine/State.lean ====
section
/-! DEFINITION. The state of one engine instance, exactly the tuple of 10_state.md R30, with two fields of the model's own: the
parameters of 00_scope.md R9 (entry 5) and the draw counter (entry 4). -/

namespace Sys2Proof.Machine

/-- The accumulator and the six general registers (R31, R32). BC, DE, HL have no storage of their own (R35). -/
structure Regs where
  a : Byte
  b : Byte
  c : Byte
  d : Byte
  e : Byte
  h : Byte
  l : Byte
  deriving DecidableEq, Repr

/-- The five flags (R40), in the order of the flag byte. -/
structure Flags where
  s : Bool
  z : Bool
  ac : Bool
  p : Bool
  cy : Bool
  deriving DecidableEq, Repr

/-- The interrupt-control and serial state (R43, R44): INTE, M55, M65, M75, I75, SOD. -/
structure Ctl where
  inte : Bool
  m55 : Bool
  m65 : Bool
  m75 : Bool
  i75 : Bool
  sod : Bool
  deriving DecidableEq, Repr

/-- An I/O port event of `trace`: `In(port, value)` or `Out(port, value)` (20_memory.md R90, R91). -/
inductive IoEvent where
  | input (port value : Byte)
  | output (port value : Byte)
  deriving DecidableEq, Repr

/-- A fault record (60_exceptions.md R300). -/
inductive FaultRecord where
  | illegalOpcode (pc : Word) (opcode : Byte)
  | stepLimitExceeded (steps : Nat)
  deriving DecidableEq, Repr

/-- `Mem` (20_memory.md R70): the cells that differ from `Memory.unlisted`, addresses strictly rising (entry 3). -/
abbrev Memory := List Host.Cell

/-- The state (R30). `params` and `draws` are the model's own fields (entries 5 and 4). -/
structure State where
  regs : Regs
  pc : Word
  sp : Word
  flags : Flags
  ctl : Ctl
  halted : Bool
  fault : Option FaultRecord
  steps : Nat
  mem : Memory
  trace : List IoEvent
  params : Params
  draws : Nat
  deriving DecidableEq, Repr

/-- Why a step of the model does not exist (40_execution_cycle.md R142). Both are SAFE: the machine has no step there either. -/
inductive Fault where
  /-- Raised by `step` in a state with `halted = true`: the run is finished (R142, R316). Safe. -/
  | halted
  /-- Raised by `step` in a state whose `fault` field holds a record: the run ended with an error (R142, R303). Safe. -/
  | faulted (record : FaultRecord)
  deriving DecidableEq, Repr

/-- Why the model has no meaning for an instruction. No arm of `exec` uses it: every instruction has its meaning. -/
inductive Refusal where
  /-- Would be raised by an arm of `exec` for an instruction not modelled yet. Safe. -/
  | notModelled (mnemonic : String)
  deriving DecidableEq, Repr

/-- The machine right after a hardware reset (70_reset_and_hazards.md R332): PC = 0, INTE = 0, I75 = 0, running, no fault, `steps` = 0,
`trace` empty. The spec leaves every other field to a draw: the values here are DESIGN CHOICES (entries 1 to 4). -/
def State.reset : State where
  regs := ⟨0x00#8, 0x00#8, 0x00#8, 0x00#8, 0x00#8, 0x00#8, 0x00#8⟩
  pc := 0x0000#16
  sp := 0x0000#16
  flags := ⟨false, false, false, false, false⟩
  ctl := { inte := false, m55 := true, m65 := true, m75 := true, i75 := false, sod := false }
  halted := false
  fault := none
  steps := 0
  mem := []
  trace := []
  params := Params.hardware
  draws := 0

end Sys2Proof.Machine
end

