-- ==== Sys2Proof/Syntax.lean ====
section
/-! DEFINITION. The syntax: one constructor per row of spec/opcode_table.json (30_encoding.md R115: "exactly one entry exists per
concrete instruction variant"). An 8-bit immediate or port is a `Byte`, a 16-bit immediate or direct address a `Word`. -/

namespace Sys2Proof

/-- The 246 documented instructions, in the order of their rules (R180 to R293) and, within a rule, of their opcode bytes (R110). -/
inductive Instr where
  | movBB
  | movBC
  | movBD
  | movBE
  | movBH
  | movBL
  | movBA
  | movCB
  | movCC
  | movCD
  | movCE
  | movCH
  | movCL
  | movCA
  | movDB
  | movDC
  | movDD
  | movDE
  | movDH
  | movDL
  | movDA
  | movEB
  | movEC
  | movED
  | movEE
  | movEH
  | movEL
  | movEA
  | movHB
  | movHC
  | movHD
  | movHE
  | movHH
  | movHL
  | movHA
  | movLB
  | movLC
  | movLD
  | movLE
  | movLH
  | movLL
  | movLA
  | movAB
  | movAC
  | movAD
  | movAE
  | movAH
  | movAL
  | movAA
  | movBM
  | movCM
  | movDM
  | movEM
  | movHM
  | movLM
  | movAM
  | movMB
  | movMC
  | movMD
  | movME
  | movMH
  | movML
  | movMA
  | mviB (d8 : Byte)
  | mviC (d8 : Byte)
  | mviD (d8 : Byte)
  | mviE (d8 : Byte)
  | mviH (d8 : Byte)
  | mviL (d8 : Byte)
  | mviA (d8 : Byte)
  | mviM (d8 : Byte)
  | lxiB (d16 : Word)
  | lxiD (d16 : Word)
  | lxiH (d16 : Word)
  | lxiSp (d16 : Word)
  | lda (a16 : Word)
  | sta (a16 : Word)
  | lhld (a16 : Word)
  | shld (a16 : Word)
  | ldaxB
  | ldaxD
  | staxB
  | staxD
  | xchg
  | addB
  | addC
  | addD
  | addE
  | addH
  | addL
  | addA
  | addM
  | adi (d8 : Byte)
  | adcB
  | adcC
  | adcD
  | adcE
  | adcH
  | adcL
  | adcA
  | adcM
  | aci (d8 : Byte)
  | subB
  | subC
  | subD
  | subE
  | subH
  | subL
  | subA
  | subM
  | sui (d8 : Byte)
  | sbbB
  | sbbC
  | sbbD
  | sbbE
  | sbbH
  | sbbL
  | sbbA
  | sbbM
  | sbi (d8 : Byte)
  | inrB
  | inrC
  | inrD
  | inrE
  | inrH
  | inrL
  | inrA
  | inrM
  | dcrB
  | dcrC
  | dcrD
  | dcrE
  | dcrH
  | dcrL
  | dcrA
  | dcrM
  | inxB
  | inxD
  | inxH
  | inxSp
  | dcxB
  | dcxD
  | dcxH
  | dcxSp
  | dadB
  | dadD
  | dadH
  | dadSp
  | daa
  | anaB
  | anaC
  | anaD
  | anaE
  | anaH
  | anaL
  | anaA
  | anaM
  | ani (d8 : Byte)
  | xraB
  | xraC
  | xraD
  | xraE
  | xraH
  | xraL
  | xraA
  | xraM
  | xri (d8 : Byte)
  | oraB
  | oraC
  | oraD
  | oraE
  | oraH
  | oraL
  | oraA
  | oraM
  | ori (d8 : Byte)
  | cmpB
  | cmpC
  | cmpD
  | cmpE
  | cmpH
  | cmpL
  | cmpA
  | cmpM
  | cpi (d8 : Byte)
  | rlc
  | rrc
  | ral
  | rar
  | cma
  | cmc
  | stc
  | jmp (a16 : Word)
  | jnz (a16 : Word)
  | jz (a16 : Word)
  | jnc (a16 : Word)
  | jc (a16 : Word)
  | jpo (a16 : Word)
  | jpe (a16 : Word)
  | jp (a16 : Word)
  | jm (a16 : Word)
  | call (a16 : Word)
  | cnz (a16 : Word)
  | cz (a16 : Word)
  | cnc (a16 : Word)
  | cc (a16 : Word)
  | cpo (a16 : Word)
  | cpe (a16 : Word)
  | cp (a16 : Word)
  | cm (a16 : Word)
  | ret
  | rnz
  | rz
  | rnc
  | rc
  | rpo
  | rpe
  | rp
  | rm
  | rst0
  | rst1
  | rst2
  | rst3
  | rst4
  | rst5
  | rst6
  | rst7
  | pchl
  | pushB
  | pushD
  | pushH
  | pushPsw
  | popB
  | popD
  | popH
  | popPsw
  | xthl
  | sphl
  | inPort (port : Byte)
  | outPort (port : Byte)
  | ei
  | di
  | hlt
  | nop
  | rim
  | sim
  deriving DecidableEq, Repr

end Sys2Proof
end

