-- ==== Sys2Proof/WellFormed.lean ====
section
/-! DEFINITION. The operand names, the 74 instruction forms as one family of parametric forms, the form of every instruction, and the
well-formedness check (which forms exist: 30_encoding.md R103, R113, R121). -/

namespace Sys2Proof

/-- The operands of the 3-bit register code (10_state.md R32): seven registers and `m`, the cell at HL (R33). -/
inductive Reg8 where
  | b | c | d | e | h | l | m | a
  deriving DecidableEq, Repr

/-- The pairs of the 2-bit code for LXI, INX, DCX, DAD, LDAX, STAX (R34). -/
inductive RegPair where
  | bc | de | hl | sp
  deriving DecidableEq, Repr

/-- The pairs of the 2-bit code for PUSH and POP, where code 11 is PSW (R34). -/
inductive StackPair where
  | bc | de | hl | psw
  deriving DecidableEq, Repr

/-- The condition names (30_encoding.md R104). -/
inductive Cond where
  | nz | z | nc | c | po | pe | p | m
  deriving DecidableEq, Repr

/-- The ALU operations of the `ooo` field (R106). -/
inductive AluOp where
  | add | adc | sub | sbb | ana | xra | ora | cmp
  deriving DecidableEq, Repr

/-- An instruction as a form with its operands: the `form` column of the opcode table with the fields of R101. -/
inductive Form where
  | mov (dst src : Reg8)
  | mvi (dst : Reg8) (d8 : Byte)
  | lxi (rp : RegPair) (d16 : Word)
  | lda (a16 : Word)
  | sta (a16 : Word)
  | lhld (a16 : Word)
  | shld (a16 : Word)
  | ldax (rp : RegPair)
  | stax (rp : RegPair)
  | xchg
  | alu (op : AluOp) (src : Reg8)
  | aluImm (op : AluOp) (d8 : Byte)
  | inr (r : Reg8)
  | dcr (r : Reg8)
  | inx (rp : RegPair)
  | dcx (rp : RegPair)
  | dad (rp : RegPair)
  | daa
  | rlc
  | rrc
  | ral
  | rar
  | cma
  | cmc
  | stc
  | jmp (a16 : Word)
  | jcond (cond : Cond) (a16 : Word)
  | call (a16 : Word)
  | ccond (cond : Cond) (a16 : Word)
  | ret
  | rcond (cond : Cond)
  | rst (n : BitVec 3)
  | pchl
  | push (rp : StackPair)
  | pop (rp : StackPair)
  | xthl
  | sphl
  | input (port : Byte)
  | output (port : Byte)
  | ei
  | di
  | rim
  | sim
  | hlt
  | nop
  deriving DecidableEq, Repr

/-- Which forms exist: MOV M,M does not (R113), LDAX and STAX take only BC and DE (R103). Every other combination of operands is an
instruction. -/
def Form.wellFormed : Form → Bool
  | .mov dst src => !(dst == .m && src == .m)
  | .ldax rp => rp == .bc || rp == .de
  | .stax rp => rp == .bc || rp == .de
  | _ => true

/-- The form and operands of each instruction: the `form` and field columns of opcode_table.json. -/
def Instr.form : Instr → Form
  | .movBB => .mov .b .b
  | .movBC => .mov .b .c
  | .movBD => .mov .b .d
  | .movBE => .mov .b .e
  | .movBH => .mov .b .h
  | .movBL => .mov .b .l
  | .movBA => .mov .b .a
  | .movCB => .mov .c .b
  | .movCC => .mov .c .c
  | .movCD => .mov .c .d
  | .movCE => .mov .c .e
  | .movCH => .mov .c .h
  | .movCL => .mov .c .l
  | .movCA => .mov .c .a
  | .movDB => .mov .d .b
  | .movDC => .mov .d .c
  | .movDD => .mov .d .d
  | .movDE => .mov .d .e
  | .movDH => .mov .d .h
  | .movDL => .mov .d .l
  | .movDA => .mov .d .a
  | .movEB => .mov .e .b
  | .movEC => .mov .e .c
  | .movED => .mov .e .d
  | .movEE => .mov .e .e
  | .movEH => .mov .e .h
  | .movEL => .mov .e .l
  | .movEA => .mov .e .a
  | .movHB => .mov .h .b
  | .movHC => .mov .h .c
  | .movHD => .mov .h .d
  | .movHE => .mov .h .e
  | .movHH => .mov .h .h
  | .movHL => .mov .h .l
  | .movHA => .mov .h .a
  | .movLB => .mov .l .b
  | .movLC => .mov .l .c
  | .movLD => .mov .l .d
  | .movLE => .mov .l .e
  | .movLH => .mov .l .h
  | .movLL => .mov .l .l
  | .movLA => .mov .l .a
  | .movAB => .mov .a .b
  | .movAC => .mov .a .c
  | .movAD => .mov .a .d
  | .movAE => .mov .a .e
  | .movAH => .mov .a .h
  | .movAL => .mov .a .l
  | .movAA => .mov .a .a
  | .movBM => .mov .b .m
  | .movCM => .mov .c .m
  | .movDM => .mov .d .m
  | .movEM => .mov .e .m
  | .movHM => .mov .h .m
  | .movLM => .mov .l .m
  | .movAM => .mov .a .m
  | .movMB => .mov .m .b
  | .movMC => .mov .m .c
  | .movMD => .mov .m .d
  | .movME => .mov .m .e
  | .movMH => .mov .m .h
  | .movML => .mov .m .l
  | .movMA => .mov .m .a
  | .mviB v => .mvi .b v
  | .mviC v => .mvi .c v
  | .mviD v => .mvi .d v
  | .mviE v => .mvi .e v
  | .mviH v => .mvi .h v
  | .mviL v => .mvi .l v
  | .mviA v => .mvi .a v
  | .mviM v => .mvi .m v
  | .lxiB w => .lxi .bc w
  | .lxiD w => .lxi .de w
  | .lxiH w => .lxi .hl w
  | .lxiSp w => .lxi .sp w
  | .lda w => .lda w
  | .sta w => .sta w
  | .lhld w => .lhld w
  | .shld w => .shld w
  | .ldaxB => .ldax .bc
  | .ldaxD => .ldax .de
  | .staxB => .stax .bc
  | .staxD => .stax .de
  | .xchg => .xchg
  | .addB => .alu .add .b
  | .addC => .alu .add .c
  | .addD => .alu .add .d
  | .addE => .alu .add .e
  | .addH => .alu .add .h
  | .addL => .alu .add .l
  | .addA => .alu .add .a
  | .addM => .alu .add .m
  | .adi v => .aluImm .add v
  | .adcB => .alu .adc .b
  | .adcC => .alu .adc .c
  | .adcD => .alu .adc .d
  | .adcE => .alu .adc .e
  | .adcH => .alu .adc .h
  | .adcL => .alu .adc .l
  | .adcA => .alu .adc .a
  | .adcM => .alu .adc .m
  | .aci v => .aluImm .adc v
  | .subB => .alu .sub .b
  | .subC => .alu .sub .c
  | .subD => .alu .sub .d
  | .subE => .alu .sub .e
  | .subH => .alu .sub .h
  | .subL => .alu .sub .l
  | .subA => .alu .sub .a
  | .subM => .alu .sub .m
  | .sui v => .aluImm .sub v
  | .sbbB => .alu .sbb .b
  | .sbbC => .alu .sbb .c
  | .sbbD => .alu .sbb .d
  | .sbbE => .alu .sbb .e
  | .sbbH => .alu .sbb .h
  | .sbbL => .alu .sbb .l
  | .sbbA => .alu .sbb .a
  | .sbbM => .alu .sbb .m
  | .sbi v => .aluImm .sbb v
  | .inrB => .inr .b
  | .inrC => .inr .c
  | .inrD => .inr .d
  | .inrE => .inr .e
  | .inrH => .inr .h
  | .inrL => .inr .l
  | .inrA => .inr .a
  | .inrM => .inr .m
  | .dcrB => .dcr .b
  | .dcrC => .dcr .c
  | .dcrD => .dcr .d
  | .dcrE => .dcr .e
  | .dcrH => .dcr .h
  | .dcrL => .dcr .l
  | .dcrA => .dcr .a
  | .dcrM => .dcr .m
  | .inxB => .inx .bc
  | .inxD => .inx .de
  | .inxH => .inx .hl
  | .inxSp => .inx .sp
  | .dcxB => .dcx .bc
  | .dcxD => .dcx .de
  | .dcxH => .dcx .hl
  | .dcxSp => .dcx .sp
  | .dadB => .dad .bc
  | .dadD => .dad .de
  | .dadH => .dad .hl
  | .dadSp => .dad .sp
  | .daa => .daa
  | .anaB => .alu .ana .b
  | .anaC => .alu .ana .c
  | .anaD => .alu .ana .d
  | .anaE => .alu .ana .e
  | .anaH => .alu .ana .h
  | .anaL => .alu .ana .l
  | .anaA => .alu .ana .a
  | .anaM => .alu .ana .m
  | .ani v => .aluImm .ana v
  | .xraB => .alu .xra .b
  | .xraC => .alu .xra .c
  | .xraD => .alu .xra .d
  | .xraE => .alu .xra .e
  | .xraH => .alu .xra .h
  | .xraL => .alu .xra .l
  | .xraA => .alu .xra .a
  | .xraM => .alu .xra .m
  | .xri v => .aluImm .xra v
  | .oraB => .alu .ora .b
  | .oraC => .alu .ora .c
  | .oraD => .alu .ora .d
  | .oraE => .alu .ora .e
  | .oraH => .alu .ora .h
  | .oraL => .alu .ora .l
  | .oraA => .alu .ora .a
  | .oraM => .alu .ora .m
  | .ori v => .aluImm .ora v
  | .cmpB => .alu .cmp .b
  | .cmpC => .alu .cmp .c
  | .cmpD => .alu .cmp .d
  | .cmpE => .alu .cmp .e
  | .cmpH => .alu .cmp .h
  | .cmpL => .alu .cmp .l
  | .cmpA => .alu .cmp .a
  | .cmpM => .alu .cmp .m
  | .cpi v => .aluImm .cmp v
  | .rlc => .rlc
  | .rrc => .rrc
  | .ral => .ral
  | .rar => .rar
  | .cma => .cma
  | .cmc => .cmc
  | .stc => .stc
  | .jmp w => .jmp w
  | .jnz w => .jcond .nz w
  | .jz w => .jcond .z w
  | .jnc w => .jcond .nc w
  | .jc w => .jcond .c w
  | .jpo w => .jcond .po w
  | .jpe w => .jcond .pe w
  | .jp w => .jcond .p w
  | .jm w => .jcond .m w
  | .call w => .call w
  | .cnz w => .ccond .nz w
  | .cz w => .ccond .z w
  | .cnc w => .ccond .nc w
  | .cc w => .ccond .c w
  | .cpo w => .ccond .po w
  | .cpe w => .ccond .pe w
  | .cp w => .ccond .p w
  | .cm w => .ccond .m w
  | .ret => .ret
  | .rnz => .rcond .nz
  | .rz => .rcond .z
  | .rnc => .rcond .nc
  | .rc => .rcond .c
  | .rpo => .rcond .po
  | .rpe => .rcond .pe
  | .rp => .rcond .p
  | .rm => .rcond .m
  | .rst0 => .rst 0
  | .rst1 => .rst 1
  | .rst2 => .rst 2
  | .rst3 => .rst 3
  | .rst4 => .rst 4
  | .rst5 => .rst 5
  | .rst6 => .rst 6
  | .rst7 => .rst 7
  | .pchl => .pchl
  | .pushB => .push .bc
  | .pushD => .push .de
  | .pushH => .push .hl
  | .pushPsw => .push .psw
  | .popB => .pop .bc
  | .popD => .pop .de
  | .popH => .pop .hl
  | .popPsw => .pop .psw
  | .xthl => .xthl
  | .sphl => .sphl
  | .inPort v => .input v
  | .outPort v => .output v
  | .ei => .ei
  | .di => .di
  | .hlt => .hlt
  | .nop => .nop
  | .rim => .rim
  | .sim => .sim

/-- The well-formedness of an instruction term: that of its form. (Operand ranges hold by type.) -/
def Instr.wellFormed (i : Instr) : Bool := i.form.wellFormed

end Sys2Proof
end

