-- ==== Sys2Proof/Machine/Flags.lean ====
section
/-! DEFINITION. The ALU and the flag logic (40_execution_cycle.md R153 to R161), the flag byte (10_state.md R41), decimal adjust
(42_arithmetic.md R219) and the rotates (43_logical.md R242 to R245). -/

namespace Sys2Proof.Machine

/-- `parity(r)`: 1 iff `popcount(r)` is even (R153). -/
def parity (r : Byte) : Bool := popcount r % 2 == 0

/-- `set_zsp(r)` (R154). -/
def setZsp (r : Byte) (f : Flags) : Flags := { f with z := r == 0#8, s := bitOf r 7, p := parity r }

/-- `set_arith(r, cy, ac)` (R157). -/
def setArith (r : Byte) (cy ac : Bool) (f : Flags) : Flags := { setZsp r f with cy := cy, ac := ac }

/-- `set_logic(r, ac)` (R157). -/
def setLogic (r : Byte) (ac : Bool) (f : Flags) : Flags := { setZsp r f with cy := false, ac := ac }

/-- What INR and DCR write (42_arithmetic.md R212, R214): `set_zsp(r); AC <- ac`, CY kept. -/
def setStep (r : Byte) (ac : Bool) (f : Flags) : Flags := { setZsp r f with ac := ac }

/-- `CY <- cy`, no other flag. -/
def setCy (cy : Bool) (f : Flags) : Flags := { f with cy := cy }

/-- The triple `(r, cy, ac)` of an ALU helper. -/
structure AluOut where
  r : Byte
  cy : Bool
  ac : Bool
  deriving DecidableEq, Repr

/-- `add8(a, b, c)` (R155). -/
def add8 (a b : Byte) (c : Bool) : AluOut :=
  let t := a.toNat + b.toNat + c.toNat
  { r := BitVec.ofNat 8 t
    cy := decide (t > 255)
    ac := decide (a.toNat % 16 + b.toNat % 16 + c.toNat > 15) }

/-- `sub8(a, b, c)` (R156); AC is the borrow of the low nibble. -/
def sub8 (a b : Byte) (c : Bool) : AluOut :=
  let t : Int := (a.toNat : Int) - b.toNat - c.toNat
  { r := BitVec.ofInt 8 t
    cy := decide (t < 0)
    ac := decide (((a.toNat % 16 : Nat) : Int) - (b.toNat % 16 : Nat) - c.toNat < 0) }

/-- `add16(x, y)` (R159): the sum and its carry. -/
def add16 (x y : Word) : Word × Bool := (BitVec.ofNat 16 (x.toNat + y.toNat), decide (x.toNat + y.toNat > 65535))

/-- `cond(ccc)` (R158). -/
def condHolds (cond : Cond) (f : Flags) : Bool :=
  match cond with
  | .nz => !f.z
  | .z => f.z
  | .nc => !f.cy
  | .c => f.cy
  | .po => !f.p
  | .pe => f.p
  | .p => !f.s
  | .m => f.s

/-- `pack_flags(fill)` (R41): S Z f[2] AC f[1] P f[0] CY in bits 7 to 0. -/
def packFlags (fill : BitVec 3) (f : Flags) : Byte :=
  BitVec.ofNat 8 (f.s.toNat * 128 + f.z.toNat * 64 + (fill.getLsbD 2).toNat * 32 + f.ac.toNat * 16 +
    (fill.getLsbD 1).toNat * 8 + f.p.toNat * 4 + (fill.getLsbD 0).toNat * 2 + f.cy.toNat)

/-- `unpack_flags(b)` (R41): bits 5, 3 and 1 are discarded. -/
def unpackFlags (b : Byte) : Flags :=
  { s := bitOf b 7, z := bitOf b 6, ac := bitOf b 4, p := bitOf b 2, cy := bitOf b 0 }

/-- DAA (42_arithmetic.md R219): `t` is not reduced between the two corrections, CY is never cleared, AC is the carry of the low one. -/
def daaAdjust (a : Byte) (f : Flags) : AluOut :=
  let n := a.toNat
  let low := decide (n % 16 > 9) || f.ac
  let t := if low then n + 6 else n
  let ac := low && decide (n % 16 > 9)
  let high := decide (t / 16 > 9) || f.cy
  { r := BitVec.ofNat 8 (if high then t + 0x60 else t)
    cy := if high then true else f.cy
    ac := ac }

/-- RLC (43_logical.md R242): the rotated byte and the new CY. -/
def rotLeft (a : Byte) : Byte × Bool :=
  (BitVec.ofNat 8 (a.toNat * 2 % 256 + (bitOf a 7).toNat), bitOf a 7)

/-- RRC (R243). -/
def rotRight (a : Byte) : Byte × Bool :=
  (BitVec.ofNat 8 (a.toNat / 2 + (bitOf a 0).toNat * 128), bitOf a 0)

/-- RAL (R244): through the carry. -/
def rotLeftCy (a : Byte) (cy : Bool) : Byte × Bool :=
  (BitVec.ofNat 8 (a.toNat * 2 % 256 + cy.toNat), bitOf a 7)

/-- RAR (R245): through the carry. -/
def rotRightCy (a : Byte) (cy : Bool) : Byte × Bool :=
  (BitVec.ofNat 8 (a.toNat / 2 + cy.toNat * 128), bitOf a 0)

end Sys2Proof.Machine
end

