-- ==== Sys2Proof/Decode.lean ====
section
/-! DEFINITION. Decoding by the opcode map of 30_encoding.md R110, total on any bytes, and encoding from the bit fields of R101 to R106
and the *Encoding* lines of the instruction rules. The two are written from different tables of the spec. -/

namespace Sys2Proof

/-! ## Decoding -/

/-- A cell of the opcode map: no entry (R112), or an entry of format F1, F2 or F3 (R100) waiting for its operand bytes. -/
inductive Entry where
  | illegal
  | f1 (i : Instr)
  | f2 (make : Byte → Instr)
  | f3 (make : Word → Instr)

/-- Row 0x of the map of R110. -/
def opcodeRow0 : List Entry :=
  [.f1 .nop, .f3 .lxiB, .f1 .staxB, .f1 .inxB, .f1 .inrB, .f1 .dcrB, .f2 .mviB, .f1 .rlc,
   .illegal, .f1 .dadB, .f1 .ldaxB, .f1 .dcxB, .f1 .inrC, .f1 .dcrC, .f2 .mviC, .f1 .rrc]

/-- Row 1x of the map of R110. -/
def opcodeRow1 : List Entry :=
  [.illegal, .f3 .lxiD, .f1 .staxD, .f1 .inxD, .f1 .inrD, .f1 .dcrD, .f2 .mviD, .f1 .ral,
   .illegal, .f1 .dadD, .f1 .ldaxD, .f1 .dcxD, .f1 .inrE, .f1 .dcrE, .f2 .mviE, .f1 .rar]

/-- Row 2x of the map of R110. -/
def opcodeRow2 : List Entry :=
  [.f1 .rim, .f3 .lxiH, .f3 .shld, .f1 .inxH, .f1 .inrH, .f1 .dcrH, .f2 .mviH, .f1 .daa,
   .illegal, .f1 .dadH, .f3 .lhld, .f1 .dcxH, .f1 .inrL, .f1 .dcrL, .f2 .mviL, .f1 .cma]

/-- Row 3x of the map of R110. -/
def opcodeRow3 : List Entry :=
  [.f1 .sim, .f3 .lxiSp, .f3 .sta, .f1 .inxSp, .f1 .inrM, .f1 .dcrM, .f2 .mviM, .f1 .stc,
   .illegal, .f1 .dadSp, .f3 .lda, .f1 .dcxSp, .f1 .inrA, .f1 .dcrA, .f2 .mviA, .f1 .cmc]

/-- Row 4x of the map of R110. -/
def opcodeRow4 : List Entry :=
  [.f1 .movBB, .f1 .movBC, .f1 .movBD, .f1 .movBE, .f1 .movBH, .f1 .movBL, .f1 .movBM, .f1 .movBA,
   .f1 .movCB, .f1 .movCC, .f1 .movCD, .f1 .movCE, .f1 .movCH, .f1 .movCL, .f1 .movCM, .f1 .movCA]

/-- Row 5x of the map of R110. -/
def opcodeRow5 : List Entry :=
  [.f1 .movDB, .f1 .movDC, .f1 .movDD, .f1 .movDE, .f1 .movDH, .f1 .movDL, .f1 .movDM, .f1 .movDA,
   .f1 .movEB, .f1 .movEC, .f1 .movED, .f1 .movEE, .f1 .movEH, .f1 .movEL, .f1 .movEM, .f1 .movEA]

/-- Row 6x of the map of R110. -/
def opcodeRow6 : List Entry :=
  [.f1 .movHB, .f1 .movHC, .f1 .movHD, .f1 .movHE, .f1 .movHH, .f1 .movHL, .f1 .movHM, .f1 .movHA,
   .f1 .movLB, .f1 .movLC, .f1 .movLD, .f1 .movLE, .f1 .movLH, .f1 .movLL, .f1 .movLM, .f1 .movLA]

/-- Row 7x of the map of R110. -/
def opcodeRow7 : List Entry :=
  [.f1 .movMB, .f1 .movMC, .f1 .movMD, .f1 .movME, .f1 .movMH, .f1 .movML, .f1 .hlt, .f1 .movMA,
   .f1 .movAB, .f1 .movAC, .f1 .movAD, .f1 .movAE, .f1 .movAH, .f1 .movAL, .f1 .movAM, .f1 .movAA]

/-- Row 8x of the map of R110. -/
def opcodeRow8 : List Entry :=
  [.f1 .addB, .f1 .addC, .f1 .addD, .f1 .addE, .f1 .addH, .f1 .addL, .f1 .addM, .f1 .addA,
   .f1 .adcB, .f1 .adcC, .f1 .adcD, .f1 .adcE, .f1 .adcH, .f1 .adcL, .f1 .adcM, .f1 .adcA]

/-- Row 9x of the map of R110. -/
def opcodeRow9 : List Entry :=
  [.f1 .subB, .f1 .subC, .f1 .subD, .f1 .subE, .f1 .subH, .f1 .subL, .f1 .subM, .f1 .subA,
   .f1 .sbbB, .f1 .sbbC, .f1 .sbbD, .f1 .sbbE, .f1 .sbbH, .f1 .sbbL, .f1 .sbbM, .f1 .sbbA]

/-- Row Ax of the map of R110. -/
def opcodeRowA : List Entry :=
  [.f1 .anaB, .f1 .anaC, .f1 .anaD, .f1 .anaE, .f1 .anaH, .f1 .anaL, .f1 .anaM, .f1 .anaA,
   .f1 .xraB, .f1 .xraC, .f1 .xraD, .f1 .xraE, .f1 .xraH, .f1 .xraL, .f1 .xraM, .f1 .xraA]

/-- Row Bx of the map of R110. -/
def opcodeRowB : List Entry :=
  [.f1 .oraB, .f1 .oraC, .f1 .oraD, .f1 .oraE, .f1 .oraH, .f1 .oraL, .f1 .oraM, .f1 .oraA,
   .f1 .cmpB, .f1 .cmpC, .f1 .cmpD, .f1 .cmpE, .f1 .cmpH, .f1 .cmpL, .f1 .cmpM, .f1 .cmpA]

/-- Row Cx of the map of R110. -/
def opcodeRowC : List Entry :=
  [.f1 .rnz, .f1 .popB, .f3 .jnz, .f3 .jmp, .f3 .cnz, .f1 .pushB, .f2 .adi, .f1 .rst0,
   .f1 .rz, .f1 .ret, .f3 .jz, .illegal, .f3 .cz, .f3 .call, .f2 .aci, .f1 .rst1]

/-- Row Dx of the map of R110. -/
def opcodeRowD : List Entry :=
  [.f1 .rnc, .f1 .popD, .f3 .jnc, .f2 .outPort, .f3 .cnc, .f1 .pushD, .f2 .sui, .f1 .rst2,
   .f1 .rc, .illegal, .f3 .jc, .f2 .inPort, .f3 .cc, .illegal, .f2 .sbi, .f1 .rst3]

/-- Row Ex of the map of R110. -/
def opcodeRowE : List Entry :=
  [.f1 .rpo, .f1 .popH, .f3 .jpo, .f1 .xthl, .f3 .cpo, .f1 .pushH, .f2 .ani, .f1 .rst4,
   .f1 .rpe, .f1 .pchl, .f3 .jpe, .f1 .xchg, .f3 .cpe, .illegal, .f2 .xri, .f1 .rst5]

/-- Row Fx of the map of R110. -/
def opcodeRowF : List Entry :=
  [.f1 .rp, .f1 .popPsw, .f3 .jp, .f1 .di, .f3 .cp, .f1 .pushPsw, .f2 .ori, .f1 .rst6,
   .f1 .rm, .f1 .sphl, .f3 .jm, .f1 .ei, .f3 .cm, .illegal, .f2 .cpi, .f1 .rst7]

/-- The opcode map of R110: row = high hex digit, column = low hex digit. -/
def opcodeMap : List (List Entry) :=
  [opcodeRow0, opcodeRow1, opcodeRow2, opcodeRow3, opcodeRow4, opcodeRow5, opcodeRow6, opcodeRow7,
   opcodeRow8, opcodeRow9, opcodeRowA, opcodeRowB, opcodeRowC, opcodeRowD, opcodeRowE, opcodeRowF]

/-- Decode of the opcode byte alone (40_execution_cycle.md R145): the map's cell. -/
def decodeEntry (op : Byte) : Entry :=
  (opcodeMap.getD (op.toNat / 16) []).getD (op.toNat % 16) .illegal

/-- The ten bytes with no entry (R112). -/
def illegalOpcodes : List Byte :=
  [0x08#8, 0x10#8, 0x18#8, 0x28#8, 0x38#8, 0xCB#8, 0xD9#8, 0xDD#8, 0xED#8, 0xFD#8]

/-- The encoded length of an entry, by its opcode byte alone (R111); 0 where there is no entry. -/
def Entry.length : Entry → Nat
  | .illegal => 0
  | .f1 _ => 1
  | .f2 _ => 2
  | .f3 _ => 3

/-- The instruction of an entry with its operand bytes: an F1 entry uses none, an F2 entry byte 1 (R107, R109), an F3 entry
`cat(byte2, byte1)` (R108). A byte the entry does not have is ignored. -/
def Entry.fill (e : Entry) (b1 b2 : Byte) : Option Instr :=
  match e with
  | .illegal => none
  | .f1 i => some i
  | .f2 make => some (make b1)
  | .f3 make => some (make (cat b2 b1))

/-- What the decoder reads from a list of bytes: an instruction with the bytes after it, an opcode byte with no entry (R112), or too
few bytes. -/
inductive DecodeResult where
  | ok (i : Instr) (rest : List Byte)
  | illegalOpcode (op : Byte)
  | truncated
  deriving DecidableEq, Repr

/-- Decode, total on any bytes. -/
def decode : List Byte → DecodeResult
  | [] => .truncated
  | op :: rest =>
    match decodeEntry op, rest with
    | .illegal, _ => .illegalOpcode op
    | .f1 i, rest => .ok i rest
    | .f2 make, b1 :: rest => .ok (make b1) rest
    | .f3 make, b1 :: b2 :: rest => .ok (make (cat b2 b1)) rest
    | _, _ => .truncated

/-- Byte `k` of an instruction whose first `nbits` bits are `w` and whose other bits are 0; byte 0 is bits 7..0 (R100: byte 0 first). -/
def tableByte (nbits w k : Nat) : Byte := BitVec.ofNat 8 (w % 2 ^ nbits / 2 ^ (8 * k))

/-- The instruction the decoder reads from the table word `w` of `nbits` bits. -/
def decodeTableWord (nbits w : Nat) : Option Instr :=
  match decode [tableByte nbits w 0, tableByte nbits w 1, tableByte nbits w 2] with
  | .ok i _ => some i
  | .illegalOpcode _ => none
  | .truncated => none

/-! ## The fields of the opcode byte -/

/-- Register codes `ddd`, `sss` (R102). -/
def Reg8.code : Reg8 → BitVec 3
  | .b => 0b000#3
  | .c => 0b001#3
  | .d => 0b010#3
  | .e => 0b011#3
  | .h => 0b100#3
  | .l => 0b101#3
  | .m => 0b110#3
  | .a => 0b111#3

/-- Pair codes `rp` for LXI, INX, DCX, DAD, LDAX, STAX (R103). -/
def RegPair.code : RegPair → BitVec 2
  | .bc => 0b00#2
  | .de => 0b01#2
  | .hl => 0b10#2
  | .sp => 0b11#2

/-- Pair codes `rp` for PUSH and POP (R103). -/
def StackPair.code : StackPair → BitVec 2
  | .bc => 0b00#2
  | .de => 0b01#2
  | .hl => 0b10#2
  | .psw => 0b11#2

/-- Condition codes `ccc` (R104). -/
def Cond.code : Cond → BitVec 3
  | .nz => 0b000#3
  | .z => 0b001#3
  | .nc => 0b010#3
  | .c => 0b011#3
  | .po => 0b100#3
  | .pe => 0b101#3
  | .p => 0b110#3
  | .m => 0b111#3

/-- ALU operation codes `ooo` (R106). -/
def AluOp.code : AluOp → BitVec 3
  | .add => 0b000#3
  | .adc => 0b001#3
  | .sub => 0b010#3
  | .sbb => 0b011#3
  | .ana => 0b100#3
  | .xra => 0b101#3
  | .ora => 0b110#3
  | .cmp => 0b111#3

/-- An opcode byte `hh mmm lll` from its fields at bits 7:6, 5:3 and 2:0 (R101). -/
def opcode233 (hh : BitVec 2) (mmm lll : BitVec 3) : Byte := hh ++ mmm ++ lll

/-- An opcode byte `hh pp llll` from its fields at bits 7:6, 5:4 and 3:0 (R101). -/
def opcode224 (hh pp : BitVec 2) (llll : BitVec 4) : Byte := hh ++ pp ++ llll

/-! ## Encoding -/

/-- The opcode byte of a form, from the *Encoding* line of its rule. -/
def Form.opcode : Form → Byte
  | .mov dst src => opcode233 0b01#2 dst.code src.code
  | .mvi dst _ => opcode233 0b00#2 dst.code 0b110#3
  | .lxi rp _ => opcode224 0b00#2 rp.code 0b0001#4
  | .lda _ => 0x3A#8
  | .sta _ => 0x32#8
  | .lhld _ => 0x2A#8
  | .shld _ => 0x22#8
  | .ldax rp => opcode224 0b00#2 rp.code 0b1010#4
  | .stax rp => opcode224 0b00#2 rp.code 0b0010#4
  | .xchg => 0xEB#8
  | .alu op src => opcode233 0b10#2 op.code src.code
  | .aluImm op _ => opcode233 0b11#2 op.code 0b110#3
  | .inr r => opcode233 0b00#2 r.code 0b100#3
  | .dcr r => opcode233 0b00#2 r.code 0b101#3
  | .inx rp => opcode224 0b00#2 rp.code 0b0011#4
  | .dcx rp => opcode224 0b00#2 rp.code 0b1011#4
  | .dad rp => opcode224 0b00#2 rp.code 0b1001#4
  | .daa => 0x27#8
  | .rlc => 0x07#8
  | .rrc => 0x0F#8
  | .ral => 0x17#8
  | .rar => 0x1F#8
  | .cma => 0x2F#8
  | .cmc => 0x3F#8
  | .stc => 0x37#8
  | .jmp _ => 0xC3#8
  | .jcond cond _ => opcode233 0b11#2 cond.code 0b010#3
  | .call _ => 0xCD#8
  | .ccond cond _ => opcode233 0b11#2 cond.code 0b100#3
  | .ret => 0xC9#8
  | .rcond cond => opcode233 0b11#2 cond.code 0b000#3
  | .rst n => opcode233 0b11#2 n 0b111#3
  | .pchl => 0xE9#8
  | .push rp => opcode224 0b11#2 rp.code 0b0101#4
  | .pop rp => opcode224 0b11#2 rp.code 0b0001#4
  | .xthl => 0xE3#8
  | .sphl => 0xF9#8
  | .input _ => 0xDB#8
  | .output _ => 0xD3#8
  | .ei => 0xFB#8
  | .di => 0xF3#8
  | .rim => 0x20#8
  | .sim => 0x30#8
  | .hlt => 0x76#8
  | .nop => 0x00#8

/-- The two operand bytes of a 16-bit operand: the low byte first, then the high byte (R108). -/
def wordBytes (w : Word) : List Byte := [lo8 w, hi8 w]

/-- The operand bytes of a form: none (F1), the 8-bit value (F2), the low then the high byte (F3) (R100, R120). -/
def Form.operands : Form → List Byte
  | .mvi _ d8 => [d8]
  | .lxi _ d16 => wordBytes d16
  | .lda a16 => wordBytes a16
  | .sta a16 => wordBytes a16
  | .lhld a16 => wordBytes a16
  | .shld a16 => wordBytes a16
  | .aluImm _ d8 => [d8]
  | .jmp a16 => wordBytes a16
  | .jcond _ a16 => wordBytes a16
  | .call a16 => wordBytes a16
  | .ccond _ a16 => wordBytes a16
  | .input port => [port]
  | .output port => [port]
  | _ => []

/-- The words of a form. -/
def encodeForm (f : Form) : List Byte := f.opcode :: f.operands

/-- The words of an instruction. -/
def encode (i : Instr) : List Byte := encodeForm i.form

/-- The length of an instruction (R111): 3 for LXI, SHLD, LHLD, STA, LDA, JMP, CALL, Jcond, Ccond; 2 for MVI, the immediate ALU
instructions, IN and OUT; 1 for every other. -/
def Form.length : Form → Nat
  | .lxi _ _ => 3
  | .shld _ => 3
  | .lhld _ => 3
  | .sta _ => 3
  | .lda _ => 3
  | .jmp _ => 3
  | .call _ => 3
  | .jcond _ _ => 3
  | .ccond _ _ => 3
  | .mvi _ _ => 2
  | .aluImm _ _ => 2
  | .input _ => 2
  | .output _ => 2
  | _ => 1

/-- The length in bytes of an instruction (R111). -/
def Instr.length (i : Instr) : Nat := i.form.length

end Sys2Proof
end

