-- ==== Sys2Proof/Machine/Ops.lean ====
section
/-! DEFINITION. The named operations over memory, the state's fields, the stack and the I/O space, the raising of a fault, and the
pieces of the fetch-decode-execute cycle (20_memory.md, 40_execution_cycle.md, 44_branch.md R270 and R271, 60_exceptions.md). -/

namespace Sys2Proof.Machine

/-! ## Memory -/

/-- What a cell that `mem` does not list holds (entry 3). -/
def Memory.unlisted : Byte := 0x00#8

/-- The byte of the cell with number `a`. -/
def Memory.readByte : Memory → Nat → Byte
  | [], _ => Memory.unlisted
  | (k, v) :: rest, a => if k = a then v else Memory.readByte rest a

/-- `m` without an entry for the cell `a`. -/
def Memory.erase : Memory → Nat → Memory
  | [], _ => []
  | (k, v) :: rest, a => if k = a then Memory.erase rest a else (k, v) :: Memory.erase rest a

/-- `m` with the entry `(a, v)` in its place. -/
def Memory.insert : Memory → Nat → Byte → Memory
  | [], a, v => [(a, v)]
  | (k, w) :: rest, a, v =>
    if k < a then (k, w) :: Memory.insert rest a v
    else if k = a then (a, v) :: rest
    else (a, v) :: (k, w) :: rest

/-- The cell `a` takes the byte `v`. -/
def Memory.writeByte (m : Memory) (a : Nat) (v : Byte) : Memory :=
  if v = Memory.unlisted then Memory.erase m a else Memory.insert m a v

/-- Every address of `m` is at least `lo`, below 65536, strictly rising, and no entry holds the unlisted byte. -/
def Memory.wfFrom : Nat → Memory → Bool
  | _, [] => true
  | lo, (k, v) :: rest => decide (lo ≤ k) && decide (k < 65536) && (v != Memory.unlisted) && Memory.wfFrom (k + 1) rest

/-- The canonical form (entry 3): equal memories are equal lists. -/
def Memory.wf (m : Memory) : Bool := Memory.wfFrom 0 m

/-- `MemRead(addr, 1)` (R71). -/
def State.read (s : State) (addr : Word) : Byte := s.mem.readByte addr.toNat

/-- `MemWrite(addr, 1, v)` (R72). -/
def State.write (s : State) (addr : Word) (v : Byte) : State := { s with mem := s.mem.writeByte addr.toNat v }

/-- `MemRead(addr, 2)`, little-endian (R75). -/
def State.read16 (s : State) (addr : Word) : Word := cat (s.read (addr + 1#16)) (s.read addr)

/-- `MemWrite(addr, 2, w)`, low byte first (R76). -/
def State.write16 (s : State) (addr : Word) (w : Word) : State :=
  (s.write addr (lo8 w)).write (addr + 1#16) (hi8 w)

/-! ## Fields -/

/-- `PC <- target` (00_scope.md R15). -/
def State.setPc (s : State) (target : Word) : State := { s with pc := target }

/-- `SP <- w`. -/
def State.setSp (s : State) (w : Word) : State := { s with sp := w }

/-- The register file takes `r`. -/
def State.setRegs (s : State) (r : Regs) : State := { s with regs := r }

/-- The flags take `f`. -/
def State.setFlags (s : State) (f : Flags) : State := { s with flags := f }

/-- The interrupt-control and serial state takes `c`. -/
def State.setCtl (s : State) (c : Ctl) : State := { s with ctl := c }

/-- `signalHalt()`: sets the Run Controller flag, idempotent (10_state.md R45). -/
def State.signalHalt (s : State) : State := { s with halted := true }

/-- `isHalted()` (R45). -/
def State.isHalted (s : State) : Bool := s.halted

/-- Appends an event to `trace` (20_memory.md R90, R91). -/
def State.logEvent (s : State) (ev : IoEvent) : State := { s with trace := s.trace ++ [ev] }

/-- The next draw is a fresh one (entry 4). -/
def State.countDraw (s : State) : State := { s with draws := s.draws + 1 }

/-! ## The stack -/

/-- `push16(w)` (44_branch.md R270). -/
def State.push16 (s : State) (w : Word) : State := (s.setSp (s.sp - 2#16)).write16 (s.sp - 2#16) w

/-- The word `pop16()` returns (R271). -/
def State.popWord (s : State) : Word := s.read16 s.sp

/-- What `pop16()` leaves: `SP <- SP +16 2` (R271). -/
def State.popSp (s : State) : State := s.setSp (s.sp + 2#16)

/-! ## Faults -/

/-- Taking a fault (60_exceptions.md R301, R302, R309): the record is set and nothing else changes. There is no vector, nothing is saved
or pushed, and there is no return from it (R310). -/
def State.raiseFault (s : State) (r : FaultRecord) : State := { s with fault := some r }

/-- The number of a fault record (R300). -/
def FaultRecord.code : FaultRecord → Nat
  | .illegalOpcode _ _ => 1
  | .stepLimitExceeded _ => 2

/-! ## The fetch-decode-execute cycle (40_execution_cycle.md R140) -/

/-- Why there is no step, if there is none (R142): the state is faulted or halted. -/
def State.noStep (s : State) : Option Fault :=
  match s.fault with
  | some r => some (.faulted r)
  | none => if s.halted then some .halted else none

/-- The step limit is set and reached (R143). -/
def State.limitReached (s : State) : Bool :=
  match s.params.stepLimit with
  | some n => decide (n ≤ s.steps)
  | none => false

/-- Fetch and decode (R144, R145, R146): the entry of the byte at PC with its operand bytes at `PC +16 1` and `PC +16 2`; `none` where the
byte has no entry. Reading a byte has no effect (R71), so a byte the entry does not have is not distinguished from one not read (entry 7). -/
def State.fetch (s : State) : Option Instr :=
  (decodeEntry (s.read s.pc)).fill (s.read (s.pc + 1#16)) (s.read (s.pc + 2#16))

/-- `PC <- pc_next`, `pc_next = old(PC) +16 len` (R141). -/
def State.advance (s : State) (i : Instr) : State := s.setPc (s.pc + BitVec.ofNat 16 i.length)

/-- `steps <- steps + 1` (R140). -/
def State.retire (s : State) : State := { s with steps := s.steps + 1 }

/-- The step whose opcode byte has no entry (R301). -/
def State.raiseIllegalOpcode (s : State) : State := s.raiseFault (.illegalOpcode s.pc (s.read s.pc))

/-- The step whose limit is reached (R143, R302). -/
def State.raiseStepLimit (s : State) : State := s.raiseFault (.stepLimitExceeded s.steps)

/-- The bytes of `bs` stored from cell `addr` on, wrapping (R123 with R78). -/
def Memory.writeBytes (m : Memory) (addr : Word) : List Byte → Memory
  | [] => m
  | b :: bs => Memory.writeBytes (m.writeByte addr.toNat b) (addr + 1#16) bs

end Sys2Proof.Machine
end

