-- ==== Sys2Proof/Machine/Operands.lean ====
section
/-! DEFINITION. Operand access: the 3-bit register operands with M (40_execution_cycle.md R150, R151) and the register pairs (R152,
10_state.md R34, R35). -/

namespace Sys2Proof.Machine

/-- `BC = cat(B, C)` (R14, R35). -/
def State.bc (s : State) : Word := cat s.regs.b s.regs.c

/-- `DE = cat(D, E)`. -/
def State.de (s : State) : Word := cat s.regs.d s.regs.e

/-- `HL = cat(H, L)`. -/
def State.hl (s : State) : Word := cat s.regs.h s.regs.l

/-- `reg_read(c)` (R150); `m` reads the cell at HL. -/
def State.regRead (s : State) : Reg8 → Byte
  | .b => s.regs.b
  | .c => s.regs.c
  | .d => s.regs.d
  | .e => s.regs.e
  | .h => s.regs.h
  | .l => s.regs.l
  | .m => s.read s.hl
  | .a => s.regs.a

/-- `reg_write(c, v)` (R151); `m` writes the cell at HL. -/
def State.regWrite (s : State) (r : Reg8) (v : Byte) : State :=
  match r with
  | .b => s.setRegs { s.regs with b := v }
  | .c => s.setRegs { s.regs with c := v }
  | .d => s.setRegs { s.regs with d := v }
  | .e => s.setRegs { s.regs with e := v }
  | .h => s.setRegs { s.regs with h := v }
  | .l => s.setRegs { s.regs with l := v }
  | .m => s.write s.hl v
  | .a => s.setRegs { s.regs with a := v }

/-- `rp_read(p)` (R152) for the pairs of LXI, INX, DCX, DAD, LDAX and STAX. -/
def State.pairRead (s : State) : RegPair → Word
  | .bc => s.bc
  | .de => s.de
  | .hl => s.hl
  | .sp => s.sp

/-- `rp_write(p, w)` (R152): both halves in the same step. -/
def State.pairWrite (s : State) (p : RegPair) (w : Word) : State :=
  match p with
  | .bc => s.setRegs { s.regs with b := hi8 w, c := lo8 w }
  | .de => s.setRegs { s.regs with d := hi8 w, e := lo8 w }
  | .hl => s.setRegs { s.regs with h := hi8 w, l := lo8 w }
  | .sp => s.setSp w

end Sys2Proof.Machine
end

