-- ==== Sys2Proof/Machine/Arithmetic.lean ====
section
/-! DEFINITION. The meanings of the arithmetic instructions (42_arithmetic.md R200 to R219). -/

namespace Sys2Proof.Machine

/-! ## Shared operations -/

/-- `A <- r; set_arith(r, cy, ac)`. -/
def State.accArith (s : State) (o : AluOut) : State :=
  (s.regWrite .a o.r).setFlags (setArith o.r o.cy o.ac s.flags)

/-- ADD, ADI (R200, R201, R202). -/
def State.addA (s : State) (x : Byte) : State := s.accArith (add8 s.regs.a x false)

/-- ADC, ACI (R203, R204, R205). -/
def State.adcA (s : State) (x : Byte) : State := s.accArith (add8 s.regs.a x s.flags.cy)

/-- SUB, SUI (R206, R207, R208). -/
def State.subA (s : State) (x : Byte) : State := s.accArith (sub8 s.regs.a x false)

/-- SBB, SBI (R209, R210, R211). -/
def State.sbbA (s : State) (x : Byte) : State := s.accArith (sub8 s.regs.a x s.flags.cy)

/-- INR (R212, R213): CY is kept. -/
def State.incReg (s : State) (r : Reg8) : State :=
  (s.regWrite r (add8 (s.regRead r) 1#8 false).r).setFlags
    (setStep (add8 (s.regRead r) 1#8 false).r (add8 (s.regRead r) 1#8 false).ac s.flags)

/-- DCR (R214, R215): CY is kept. -/
def State.decReg (s : State) (r : Reg8) : State :=
  (s.regWrite r (sub8 (s.regRead r) 1#8 false).r).setFlags
    (setStep (sub8 (s.regRead r) 1#8 false).r (sub8 (s.regRead r) 1#8 false).ac s.flags)

/-- INX (R216). -/
def State.incPair (s : State) (p : RegPair) : State := s.pairWrite p (s.pairRead p + 1#16)

/-- DCX (R217). -/
def State.decPair (s : State) (p : RegPair) : State := s.pairWrite p (s.pairRead p - 1#16)

/-- DAD (R218): CY only. -/
def State.addToHl (s : State) (p : RegPair) : State :=
  (s.pairWrite .hl (add16 s.hl (s.pairRead p)).1).setFlags (setCy (add16 s.hl (s.pairRead p)).2 s.flags)

/-- DAA (R219). -/
def State.decimalAdjust (s : State) : State := s.accArith (daaAdjust s.regs.a s.flags)

/-! ## One meaning per instruction -/

/-- ADD B (R200). -/
def execAddB (s : State) : Host.Outcome State Fault Refusal :=
  .next (s.addA (s.regRead .b))

/-- ADD C (R200). -/
def execAddC (s : State) : Host.Outcome State Fault Refusal :=
  .next (s.addA (s.regRead .c))

/-- ADD D (R200). -/
def execAddD (s : State) : Host.Outcome State Fault Refusal :=
  .next (s.addA (s.regRead .d))

/-- ADD E (R200). -/
def execAddE (s : State) : Host.Outcome State Fault Refusal :=
  .next (s.addA (s.regRead .e))

/-- ADD H (R200). -/
def execAddH (s : State) : Host.Outcome State Fault Refusal :=
  .next (s.addA (s.regRead .h))

/-- ADD L (R200). -/
def execAddL (s : State) : Host.Outcome State Fault Refusal :=
  .next (s.addA (s.regRead .l))

/-- ADD A (R200). -/
def execAddA (s : State) : Host.Outcome State Fault Refusal :=
  .next (s.addA (s.regRead .a))

/-- ADD M (R201). -/
def execAddM (s : State) : Host.Outcome State Fault Refusal :=
  .next (s.addA (s.regRead .m))

/-- ADI d8 (R202). -/
def execAdi (d8 : Byte) (s : State) : Host.Outcome State Fault Refusal :=
  .next (s.addA d8)

/-- ADC B (R203). -/
def execAdcB (s : State) : Host.Outcome State Fault Refusal :=
  .next (s.adcA (s.regRead .b))

/-- ADC C (R203). -/
def execAdcC (s : State) : Host.Outcome State Fault Refusal :=
  .next (s.adcA (s.regRead .c))

/-- ADC D (R203). -/
def execAdcD (s : State) : Host.Outcome State Fault Refusal :=
  .next (s.adcA (s.regRead .d))

/-- ADC E (R203). -/
def execAdcE (s : State) : Host.Outcome State Fault Refusal :=
  .next (s.adcA (s.regRead .e))

/-- ADC H (R203). -/
def execAdcH (s : State) : Host.Outcome State Fault Refusal :=
  .next (s.adcA (s.regRead .h))

/-- ADC L (R203). -/
def execAdcL (s : State) : Host.Outcome State Fault Refusal :=
  .next (s.adcA (s.regRead .l))

/-- ADC A (R203). -/
def execAdcA (s : State) : Host.Outcome State Fault Refusal :=
  .next (s.adcA (s.regRead .a))

/-- ADC M (R204). -/
def execAdcM (s : State) : Host.Outcome State Fault Refusal :=
  .next (s.adcA (s.regRead .m))

/-- ACI d8 (R205). -/
def execAci (d8 : Byte) (s : State) : Host.Outcome State Fault Refusal :=
  .next (s.adcA d8)

/-- SUB B (R206). -/
def execSubB (s : State) : Host.Outcome State Fault Refusal :=
  .next (s.subA (s.regRead .b))

/-- SUB C (R206). -/
def execSubC (s : State) : Host.Outcome State Fault Refusal :=
  .next (s.subA (s.regRead .c))

/-- SUB D (R206). -/
def execSubD (s : State) : Host.Outcome State Fault Refusal :=
  .next (s.subA (s.regRead .d))

/-- SUB E (R206). -/
def execSubE (s : State) : Host.Outcome State Fault Refusal :=
  .next (s.subA (s.regRead .e))

/-- SUB H (R206). -/
def execSubH (s : State) : Host.Outcome State Fault Refusal :=
  .next (s.subA (s.regRead .h))

/-- SUB L (R206). -/
def execSubL (s : State) : Host.Outcome State Fault Refusal :=
  .next (s.subA (s.regRead .l))

/-- SUB A (R206). -/
def execSubA (s : State) : Host.Outcome State Fault Refusal :=
  .next (s.subA (s.regRead .a))

/-- SUB M (R207). -/
def execSubM (s : State) : Host.Outcome State Fault Refusal :=
  .next (s.subA (s.regRead .m))

/-- SUI d8 (R208). -/
def execSui (d8 : Byte) (s : State) : Host.Outcome State Fault Refusal :=
  .next (s.subA d8)

/-- SBB B (R209). -/
def execSbbB (s : State) : Host.Outcome State Fault Refusal :=
  .next (s.sbbA (s.regRead .b))

/-- SBB C (R209). -/
def execSbbC (s : State) : Host.Outcome State Fault Refusal :=
  .next (s.sbbA (s.regRead .c))

/-- SBB D (R209). -/
def execSbbD (s : State) : Host.Outcome State Fault Refusal :=
  .next (s.sbbA (s.regRead .d))

/-- SBB E (R209). -/
def execSbbE (s : State) : Host.Outcome State Fault Refusal :=
  .next (s.sbbA (s.regRead .e))

/-- SBB H (R209). -/
def execSbbH (s : State) : Host.Outcome State Fault Refusal :=
  .next (s.sbbA (s.regRead .h))

/-- SBB L (R209). -/
def execSbbL (s : State) : Host.Outcome State Fault Refusal :=
  .next (s.sbbA (s.regRead .l))

/-- SBB A (R209). -/
def execSbbA (s : State) : Host.Outcome State Fault Refusal :=
  .next (s.sbbA (s.regRead .a))

/-- SBB M (R210). -/
def execSbbM (s : State) : Host.Outcome State Fault Refusal :=
  .next (s.sbbA (s.regRead .m))

/-- SBI d8 (R211). -/
def execSbi (d8 : Byte) (s : State) : Host.Outcome State Fault Refusal :=
  .next (s.sbbA d8)

/-- INR B (R212). -/
def execInrB (s : State) : Host.Outcome State Fault Refusal :=
  .next (s.incReg .b)

/-- INR C (R212). -/
def execInrC (s : State) : Host.Outcome State Fault Refusal :=
  .next (s.incReg .c)

/-- INR D (R212). -/
def execInrD (s : State) : Host.Outcome State Fault Refusal :=
  .next (s.incReg .d)

/-- INR E (R212). -/
def execInrE (s : State) : Host.Outcome State Fault Refusal :=
  .next (s.incReg .e)

/-- INR H (R212). -/
def execInrH (s : State) : Host.Outcome State Fault Refusal :=
  .next (s.incReg .h)

/-- INR L (R212). -/
def execInrL (s : State) : Host.Outcome State Fault Refusal :=
  .next (s.incReg .l)

/-- INR A (R212). -/
def execInrA (s : State) : Host.Outcome State Fault Refusal :=
  .next (s.incReg .a)

/-- INR M (R213). -/
def execInrM (s : State) : Host.Outcome State Fault Refusal :=
  .next (s.incReg .m)

/-- DCR B (R214). -/
def execDcrB (s : State) : Host.Outcome State Fault Refusal :=
  .next (s.decReg .b)

/-- DCR C (R214). -/
def execDcrC (s : State) : Host.Outcome State Fault Refusal :=
  .next (s.decReg .c)

/-- DCR D (R214). -/
def execDcrD (s : State) : Host.Outcome State Fault Refusal :=
  .next (s.decReg .d)

/-- DCR E (R214). -/
def execDcrE (s : State) : Host.Outcome State Fault Refusal :=
  .next (s.decReg .e)

/-- DCR H (R214). -/
def execDcrH (s : State) : Host.Outcome State Fault Refusal :=
  .next (s.decReg .h)

/-- DCR L (R214). -/
def execDcrL (s : State) : Host.Outcome State Fault Refusal :=
  .next (s.decReg .l)

/-- DCR A (R214). -/
def execDcrA (s : State) : Host.Outcome State Fault Refusal :=
  .next (s.decReg .a)

/-- DCR M (R215). -/
def execDcrM (s : State) : Host.Outcome State Fault Refusal :=
  .next (s.decReg .m)

/-- INX B (R216). -/
def execInxB (s : State) : Host.Outcome State Fault Refusal :=
  .next (s.incPair .bc)

/-- INX D (R216). -/
def execInxD (s : State) : Host.Outcome State Fault Refusal :=
  .next (s.incPair .de)

/-- INX H (R216). -/
def execInxH (s : State) : Host.Outcome State Fault Refusal :=
  .next (s.incPair .hl)

/-- INX SP (R216). -/
def execInxSp (s : State) : Host.Outcome State Fault Refusal :=
  .next (s.incPair .sp)

/-- DCX B (R217). -/
def execDcxB (s : State) : Host.Outcome State Fault Refusal :=
  .next (s.decPair .bc)

/-- DCX D (R217). -/
def execDcxD (s : State) : Host.Outcome State Fault Refusal :=
  .next (s.decPair .de)

/-- DCX H (R217). -/
def execDcxH (s : State) : Host.Outcome State Fault Refusal :=
  .next (s.decPair .hl)

/-- DCX SP (R217). -/
def execDcxSp (s : State) : Host.Outcome State Fault Refusal :=
  .next (s.decPair .sp)

/-- DAD B (R218). -/
def execDadB (s : State) : Host.Outcome State Fault Refusal :=
  .next (s.addToHl .bc)

/-- DAD D (R218). -/
def execDadD (s : State) : Host.Outcome State Fault Refusal :=
  .next (s.addToHl .de)

/-- DAD H (R218). -/
def execDadH (s : State) : Host.Outcome State Fault Refusal :=
  .next (s.addToHl .hl)

/-- DAD SP (R218). -/
def execDadSp (s : State) : Host.Outcome State Fault Refusal :=
  .next (s.addToHl .sp)

/-- DAA (R219). -/
def execDaa (s : State) : Host.Outcome State Fault Refusal :=
  .next (s.decimalAdjust)

end Sys2Proof.Machine
end

