-- ==== Sys2Proof/Machine/Branch.lean ====
section
/-! DEFINITION. The meanings of the branch instructions (44_branch.md R260 to R267). When a meaning runs, PC is already `pc_next`
(40_execution_cycle.md R141, entry 7): a taken branch overwrites it, a call pushes it. No branch writes a flag. -/

namespace Sys2Proof.Machine

/-! ## Shared operations -/

/-- `if cond(ccc): PC <- target` (R261). -/
def State.jumpIf (s : State) (cond : Cond) (target : Word) : State := if condHolds cond s.flags then s.setPc target else s

/-- `push16(pc_next); PC <- target` (R262). -/
def State.callTo (s : State) (target : Word) : State := (s.push16 s.pc).setPc target

/-- `if cond(ccc): push16(pc_next); PC <- target` (R263). -/
def State.callIf (s : State) (cond : Cond) (target : Word) : State := if condHolds cond s.flags then s.callTo target else s

/-- `PC <- pop16()` (R264). -/
def State.returnFrom (s : State) : State := s.popSp.setPc s.popWord

/-- `if cond(ccc): PC <- pop16()` (R265). -/
def State.returnIf (s : State) (cond : Cond) : State := if condHolds cond s.flags then s.returnFrom else s

/-- `push16(pc_next); PC <- n * 8` (R266). -/
def State.restart (s : State) (n : BitVec 3) : State := s.callTo (BitVec.ofNat 16 (n.toNat * 8))

/-! ## One meaning per instruction -/

/-- JMP a16 (R260). -/
def execJmp (a16 : Word) (s : State) : Host.Outcome State Fault Refusal :=
  .next (s.setPc a16)

/-- JNZ a16 (R261). -/
def execJnz (a16 : Word) (s : State) : Host.Outcome State Fault Refusal :=
  .next (s.jumpIf .nz a16)

/-- JZ a16 (R261). -/
def execJz (a16 : Word) (s : State) : Host.Outcome State Fault Refusal :=
  .next (s.jumpIf .z a16)

/-- JNC a16 (R261). -/
def execJnc (a16 : Word) (s : State) : Host.Outcome State Fault Refusal :=
  .next (s.jumpIf .nc a16)

/-- JC a16 (R261). -/
def execJc (a16 : Word) (s : State) : Host.Outcome State Fault Refusal :=
  .next (s.jumpIf .c a16)

/-- JPO a16 (R261). -/
def execJpo (a16 : Word) (s : State) : Host.Outcome State Fault Refusal :=
  .next (s.jumpIf .po a16)

/-- JPE a16 (R261). -/
def execJpe (a16 : Word) (s : State) : Host.Outcome State Fault Refusal :=
  .next (s.jumpIf .pe a16)

/-- JP a16 (R261). -/
def execJp (a16 : Word) (s : State) : Host.Outcome State Fault Refusal :=
  .next (s.jumpIf .p a16)

/-- JM a16 (R261). -/
def execJm (a16 : Word) (s : State) : Host.Outcome State Fault Refusal :=
  .next (s.jumpIf .m a16)

/-- CALL a16 (R262). -/
def execCall (a16 : Word) (s : State) : Host.Outcome State Fault Refusal :=
  .next (s.callTo a16)

/-- CNZ a16 (R263). -/
def execCnz (a16 : Word) (s : State) : Host.Outcome State Fault Refusal :=
  .next (s.callIf .nz a16)

/-- CZ a16 (R263). -/
def execCz (a16 : Word) (s : State) : Host.Outcome State Fault Refusal :=
  .next (s.callIf .z a16)

/-- CNC a16 (R263). -/
def execCnc (a16 : Word) (s : State) : Host.Outcome State Fault Refusal :=
  .next (s.callIf .nc a16)

/-- CC a16 (R263). -/
def execCc (a16 : Word) (s : State) : Host.Outcome State Fault Refusal :=
  .next (s.callIf .c a16)

/-- CPO a16 (R263). -/
def execCpo (a16 : Word) (s : State) : Host.Outcome State Fault Refusal :=
  .next (s.callIf .po a16)

/-- CPE a16 (R263). -/
def execCpe (a16 : Word) (s : State) : Host.Outcome State Fault Refusal :=
  .next (s.callIf .pe a16)

/-- CP a16 (R263). -/
def execCp (a16 : Word) (s : State) : Host.Outcome State Fault Refusal :=
  .next (s.callIf .p a16)

/-- CM a16 (R263). -/
def execCm (a16 : Word) (s : State) : Host.Outcome State Fault Refusal :=
  .next (s.callIf .m a16)

/-- RET (R264). -/
def execRet (s : State) : Host.Outcome State Fault Refusal :=
  .next (s.returnFrom)

/-- RNZ (R265). -/
def execRnz (s : State) : Host.Outcome State Fault Refusal :=
  .next (s.returnIf .nz)

/-- RZ (R265). -/
def execRz (s : State) : Host.Outcome State Fault Refusal :=
  .next (s.returnIf .z)

/-- RNC (R265). -/
def execRnc (s : State) : Host.Outcome State Fault Refusal :=
  .next (s.returnIf .nc)

/-- RC (R265). -/
def execRc (s : State) : Host.Outcome State Fault Refusal :=
  .next (s.returnIf .c)

/-- RPO (R265). -/
def execRpo (s : State) : Host.Outcome State Fault Refusal :=
  .next (s.returnIf .po)

/-- RPE (R265). -/
def execRpe (s : State) : Host.Outcome State Fault Refusal :=
  .next (s.returnIf .pe)

/-- RP (R265). -/
def execRp (s : State) : Host.Outcome State Fault Refusal :=
  .next (s.returnIf .p)

/-- RM (R265). -/
def execRm (s : State) : Host.Outcome State Fault Refusal :=
  .next (s.returnIf .m)

/-- RST 0 (R266). -/
def execRst0 (s : State) : Host.Outcome State Fault Refusal :=
  .next (s.restart 0#3)

/-- RST 1 (R266). -/
def execRst1 (s : State) : Host.Outcome State Fault Refusal :=
  .next (s.restart 1#3)

/-- RST 2 (R266). -/
def execRst2 (s : State) : Host.Outcome State Fault Refusal :=
  .next (s.restart 2#3)

/-- RST 3 (R266). -/
def execRst3 (s : State) : Host.Outcome State Fault Refusal :=
  .next (s.restart 3#3)

/-- RST 4 (R266). -/
def execRst4 (s : State) : Host.Outcome State Fault Refusal :=
  .next (s.restart 4#3)

/-- RST 5 (R266). -/
def execRst5 (s : State) : Host.Outcome State Fault Refusal :=
  .next (s.restart 5#3)

/-- RST 6 (R266). -/
def execRst6 (s : State) : Host.Outcome State Fault Refusal :=
  .next (s.restart 6#3)

/-- RST 7 (R266). -/
def execRst7 (s : State) : Host.Outcome State Fault Refusal :=
  .next (s.restart 7#3)

/-- PCHL (R267). -/
def execPchl (s : State) : Host.Outcome State Fault Refusal :=
  .next (s.setPc s.hl)

end Sys2Proof.Machine
end

