-- ==== Sys2Proof/Machine/DataTransfer.lean ====
section
/-! DEFINITION. The meanings of the data transfer instructions (41_data_transfer.md R180 to R192). When a meaning runs, PC is already
`pc_next` (40_execution_cycle.md R141, entry 7), and no instruction of this family writes PC or a flag. -/

namespace Sys2Proof.Machine

/-! ## Shared operations -/

/-- MOV (R180, R181, R182): the source is read before the destination is written. -/
def State.moveReg (s : State) (dst src : Reg8) : State := s.regWrite dst (s.regRead src)

/-- LDA and LDAX (R186, R190): `A <- MemRead(addr, 1)`. -/
def State.loadA (s : State) (addr : Word) : State := s.regWrite .a (s.read addr)

/-- STA and STAX (R187, R191): `MemWrite(addr, 1, A)`. -/
def State.storeA (s : State) (addr : Word) : State := s.write addr s.regs.a

/-- LHLD (R188). -/
def State.loadHL (s : State) (addr : Word) : State :=
  s.setRegs { s.regs with l := s.read addr, h := s.read (addr + 1#16) }

/-- SHLD (R189). -/
def State.storeHL (s : State) (addr : Word) : State :=
  (s.write addr s.regs.l).write (addr + 1#16) s.regs.h

/-- XCHG (R192). -/
def State.exchangeDeHl (s : State) : State :=
  s.setRegs { s.regs with h := s.regs.d, l := s.regs.e, d := s.regs.h, e := s.regs.l }

/-! ## One meaning per instruction -/

/-- MOV B,B (R180). -/
def execMovBB (s : State) : Host.Outcome State Fault Refusal :=
  .next (s.moveReg .b .b)

/-- MOV B,C (R180). -/
def execMovBC (s : State) : Host.Outcome State Fault Refusal :=
  .next (s.moveReg .b .c)

/-- MOV B,D (R180). -/
def execMovBD (s : State) : Host.Outcome State Fault Refusal :=
  .next (s.moveReg .b .d)

/-- MOV B,E (R180). -/
def execMovBE (s : State) : Host.Outcome State Fault Refusal :=
  .next (s.moveReg .b .e)

/-- MOV B,H (R180). -/
def execMovBH (s : State) : Host.Outcome State Fault Refusal :=
  .next (s.moveReg .b .h)

/-- MOV B,L (R180). -/
def execMovBL (s : State) : Host.Outcome State Fault Refusal :=
  .next (s.moveReg .b .l)

/-- MOV B,A (R180). -/
def execMovBA (s : State) : Host.Outcome State Fault Refusal :=
  .next (s.moveReg .b .a)

/-- MOV C,B (R180). -/
def execMovCB (s : State) : Host.Outcome State Fault Refusal :=
  .next (s.moveReg .c .b)

/-- MOV C,C (R180). -/
def execMovCC (s : State) : Host.Outcome State Fault Refusal :=
  .next (s.moveReg .c .c)

/-- MOV C,D (R180). -/
def execMovCD (s : State) : Host.Outcome State Fault Refusal :=
  .next (s.moveReg .c .d)

/-- MOV C,E (R180). -/
def execMovCE (s : State) : Host.Outcome State Fault Refusal :=
  .next (s.moveReg .c .e)

/-- MOV C,H (R180). -/
def execMovCH (s : State) : Host.Outcome State Fault Refusal :=
  .next (s.moveReg .c .h)

/-- MOV C,L (R180). -/
def execMovCL (s : State) : Host.Outcome State Fault Refusal :=
  .next (s.moveReg .c .l)

/-- MOV C,A (R180). -/
def execMovCA (s : State) : Host.Outcome State Fault Refusal :=
  .next (s.moveReg .c .a)

/-- MOV D,B (R180). -/
def execMovDB (s : State) : Host.Outcome State Fault Refusal :=
  .next (s.moveReg .d .b)

/-- MOV D,C (R180). -/
def execMovDC (s : State) : Host.Outcome State Fault Refusal :=
  .next (s.moveReg .d .c)

/-- MOV D,D (R180). -/
def execMovDD (s : State) : Host.Outcome State Fault Refusal :=
  .next (s.moveReg .d .d)

/-- MOV D,E (R180). -/
def execMovDE (s : State) : Host.Outcome State Fault Refusal :=
  .next (s.moveReg .d .e)

/-- MOV D,H (R180). -/
def execMovDH (s : State) : Host.Outcome State Fault Refusal :=
  .next (s.moveReg .d .h)

/-- MOV D,L (R180). -/
def execMovDL (s : State) : Host.Outcome State Fault Refusal :=
  .next (s.moveReg .d .l)

/-- MOV D,A (R180). -/
def execMovDA (s : State) : Host.Outcome State Fault Refusal :=
  .next (s.moveReg .d .a)

/-- MOV E,B (R180). -/
def execMovEB (s : State) : Host.Outcome State Fault Refusal :=
  .next (s.moveReg .e .b)

/-- MOV E,C (R180). -/
def execMovEC (s : State) : Host.Outcome State Fault Refusal :=
  .next (s.moveReg .e .c)

/-- MOV E,D (R180). -/
def execMovED (s : State) : Host.Outcome State Fault Refusal :=
  .next (s.moveReg .e .d)

/-- MOV E,E (R180). -/
def execMovEE (s : State) : Host.Outcome State Fault Refusal :=
  .next (s.moveReg .e .e)

/-- MOV E,H (R180). -/
def execMovEH (s : State) : Host.Outcome State Fault Refusal :=
  .next (s.moveReg .e .h)

/-- MOV E,L (R180). -/
def execMovEL (s : State) : Host.Outcome State Fault Refusal :=
  .next (s.moveReg .e .l)

/-- MOV E,A (R180). -/
def execMovEA (s : State) : Host.Outcome State Fault Refusal :=
  .next (s.moveReg .e .a)

/-- MOV H,B (R180). -/
def execMovHB (s : State) : Host.Outcome State Fault Refusal :=
  .next (s.moveReg .h .b)

/-- MOV H,C (R180). -/
def execMovHC (s : State) : Host.Outcome State Fault Refusal :=
  .next (s.moveReg .h .c)

/-- MOV H,D (R180). -/
def execMovHD (s : State) : Host.Outcome State Fault Refusal :=
  .next (s.moveReg .h .d)

/-- MOV H,E (R180). -/
def execMovHE (s : State) : Host.Outcome State Fault Refusal :=
  .next (s.moveReg .h .e)

/-- MOV H,H (R180). -/
def execMovHH (s : State) : Host.Outcome State Fault Refusal :=
  .next (s.moveReg .h .h)

/-- MOV H,L (R180). -/
def execMovHL (s : State) : Host.Outcome State Fault Refusal :=
  .next (s.moveReg .h .l)

/-- MOV H,A (R180). -/
def execMovHA (s : State) : Host.Outcome State Fault Refusal :=
  .next (s.moveReg .h .a)

/-- MOV L,B (R180). -/
def execMovLB (s : State) : Host.Outcome State Fault Refusal :=
  .next (s.moveReg .l .b)

/-- MOV L,C (R180). -/
def execMovLC (s : State) : Host.Outcome State Fault Refusal :=
  .next (s.moveReg .l .c)

/-- MOV L,D (R180). -/
def execMovLD (s : State) : Host.Outcome State Fault Refusal :=
  .next (s.moveReg .l .d)

/-- MOV L,E (R180). -/
def execMovLE (s : State) : Host.Outcome State Fault Refusal :=
  .next (s.moveReg .l .e)

/-- MOV L,H (R180). -/
def execMovLH (s : State) : Host.Outcome State Fault Refusal :=
  .next (s.moveReg .l .h)

/-- MOV L,L (R180). -/
def execMovLL (s : State) : Host.Outcome State Fault Refusal :=
  .next (s.moveReg .l .l)

/-- MOV L,A (R180). -/
def execMovLA (s : State) : Host.Outcome State Fault Refusal :=
  .next (s.moveReg .l .a)

/-- MOV A,B (R180). -/
def execMovAB (s : State) : Host.Outcome State Fault Refusal :=
  .next (s.moveReg .a .b)

/-- MOV A,C (R180). -/
def execMovAC (s : State) : Host.Outcome State Fault Refusal :=
  .next (s.moveReg .a .c)

/-- MOV A,D (R180). -/
def execMovAD (s : State) : Host.Outcome State Fault Refusal :=
  .next (s.moveReg .a .d)

/-- MOV A,E (R180). -/
def execMovAE (s : State) : Host.Outcome State Fault Refusal :=
  .next (s.moveReg .a .e)

/-- MOV A,H (R180). -/
def execMovAH (s : State) : Host.Outcome State Fault Refusal :=
  .next (s.moveReg .a .h)

/-- MOV A,L (R180). -/
def execMovAL (s : State) : Host.Outcome State Fault Refusal :=
  .next (s.moveReg .a .l)

/-- MOV A,A (R180). -/
def execMovAA (s : State) : Host.Outcome State Fault Refusal :=
  .next (s.moveReg .a .a)

/-- MOV B,M (R181). -/
def execMovBM (s : State) : Host.Outcome State Fault Refusal :=
  .next (s.moveReg .b .m)

/-- MOV C,M (R181). -/
def execMovCM (s : State) : Host.Outcome State Fault Refusal :=
  .next (s.moveReg .c .m)

/-- MOV D,M (R181). -/
def execMovDM (s : State) : Host.Outcome State Fault Refusal :=
  .next (s.moveReg .d .m)

/-- MOV E,M (R181). -/
def execMovEM (s : State) : Host.Outcome State Fault Refusal :=
  .next (s.moveReg .e .m)

/-- MOV H,M (R181). -/
def execMovHM (s : State) : Host.Outcome State Fault Refusal :=
  .next (s.moveReg .h .m)

/-- MOV L,M (R181). -/
def execMovLM (s : State) : Host.Outcome State Fault Refusal :=
  .next (s.moveReg .l .m)

/-- MOV A,M (R181). -/
def execMovAM (s : State) : Host.Outcome State Fault Refusal :=
  .next (s.moveReg .a .m)

/-- MOV M,B (R182). -/
def execMovMB (s : State) : Host.Outcome State Fault Refusal :=
  .next (s.moveReg .m .b)

/-- MOV M,C (R182). -/
def execMovMC (s : State) : Host.Outcome State Fault Refusal :=
  .next (s.moveReg .m .c)

/-- MOV M,D (R182). -/
def execMovMD (s : State) : Host.Outcome State Fault Refusal :=
  .next (s.moveReg .m .d)

/-- MOV M,E (R182). -/
def execMovME (s : State) : Host.Outcome State Fault Refusal :=
  .next (s.moveReg .m .e)

/-- MOV M,H (R182). -/
def execMovMH (s : State) : Host.Outcome State Fault Refusal :=
  .next (s.moveReg .m .h)

/-- MOV M,L (R182). -/
def execMovML (s : State) : Host.Outcome State Fault Refusal :=
  .next (s.moveReg .m .l)

/-- MOV M,A (R182). -/
def execMovMA (s : State) : Host.Outcome State Fault Refusal :=
  .next (s.moveReg .m .a)

/-- MVI B,d8 (R183). -/
def execMviB (d8 : Byte) (s : State) : Host.Outcome State Fault Refusal :=
  .next (s.regWrite .b d8)

/-- MVI C,d8 (R183). -/
def execMviC (d8 : Byte) (s : State) : Host.Outcome State Fault Refusal :=
  .next (s.regWrite .c d8)

/-- MVI D,d8 (R183). -/
def execMviD (d8 : Byte) (s : State) : Host.Outcome State Fault Refusal :=
  .next (s.regWrite .d d8)

/-- MVI E,d8 (R183). -/
def execMviE (d8 : Byte) (s : State) : Host.Outcome State Fault Refusal :=
  .next (s.regWrite .e d8)

/-- MVI H,d8 (R183). -/
def execMviH (d8 : Byte) (s : State) : Host.Outcome State Fault Refusal :=
  .next (s.regWrite .h d8)

/-- MVI L,d8 (R183). -/
def execMviL (d8 : Byte) (s : State) : Host.Outcome State Fault Refusal :=
  .next (s.regWrite .l d8)

/-- MVI A,d8 (R183). -/
def execMviA (d8 : Byte) (s : State) : Host.Outcome State Fault Refusal :=
  .next (s.regWrite .a d8)

/-- MVI M,d8 (R184). -/
def execMviM (d8 : Byte) (s : State) : Host.Outcome State Fault Refusal :=
  .next (s.regWrite .m d8)

/-- LXI B,d16 (R185). -/
def execLxiB (d16 : Word) (s : State) : Host.Outcome State Fault Refusal :=
  .next (s.pairWrite .bc d16)

/-- LXI D,d16 (R185). -/
def execLxiD (d16 : Word) (s : State) : Host.Outcome State Fault Refusal :=
  .next (s.pairWrite .de d16)

/-- LXI H,d16 (R185). -/
def execLxiH (d16 : Word) (s : State) : Host.Outcome State Fault Refusal :=
  .next (s.pairWrite .hl d16)

/-- LXI SP,d16 (R185). -/
def execLxiSp (d16 : Word) (s : State) : Host.Outcome State Fault Refusal :=
  .next (s.pairWrite .sp d16)

/-- LDA a16 (R186). -/
def execLda (a16 : Word) (s : State) : Host.Outcome State Fault Refusal :=
  .next (s.loadA a16)

/-- STA a16 (R187). -/
def execSta (a16 : Word) (s : State) : Host.Outcome State Fault Refusal :=
  .next (s.storeA a16)

/-- LHLD a16 (R188). -/
def execLhld (a16 : Word) (s : State) : Host.Outcome State Fault Refusal :=
  .next (s.loadHL a16)

/-- SHLD a16 (R189). -/
def execShld (a16 : Word) (s : State) : Host.Outcome State Fault Refusal :=
  .next (s.storeHL a16)

/-- LDAX B (R190). -/
def execLdaxB (s : State) : Host.Outcome State Fault Refusal :=
  .next (s.loadA (s.pairRead .bc))

/-- LDAX D (R190). -/
def execLdaxD (s : State) : Host.Outcome State Fault Refusal :=
  .next (s.loadA (s.pairRead .de))

/-- STAX B (R191). -/
def execStaxB (s : State) : Host.Outcome State Fault Refusal :=
  .next (s.storeA (s.pairRead .bc))

/-- STAX D (R191). -/
def execStaxD (s : State) : Host.Outcome State Fault Refusal :=
  .next (s.storeA (s.pairRead .de))

/-- XCHG (R192). -/
def execXchg (s : State) : Host.Outcome State Fault Refusal :=
  .next (s.exchangeDeHl)

end Sys2Proof.Machine
end

