-- ==== Sys2Proof/Machine/Logical.lean ====
section
/-! DEFINITION. The meanings of the logical, compare, rotate and flag instructions (43_logical.md R230 to R248). -/

namespace Sys2Proof.Machine

/-! ## Shared operations -/

/-- `A <- r; set_logic(r, ac)`. -/
def State.accLogic (s : State) (r : Byte) (ac : Bool) : State :=
  (s.regWrite .a r).setFlags (setLogic r ac s.flags)

/-- ANA, ANI (R230, R231, R232): AC takes `AND_AC` (entry 5). -/
def State.andA (s : State) (x : Byte) : State := s.accLogic (s.regs.a &&& x) s.params.andAc

/-- XRA, XRI (R233, R234, R235). -/
def State.xorA (s : State) (x : Byte) : State := s.accLogic (s.regs.a ^^^ x) false

/-- ORA, ORI (R236, R237, R238). -/
def State.orA (s : State) (x : Byte) : State := s.accLogic (s.regs.a ||| x) false

/-- CMP, CPI (R239, R240, R241): the flags of a subtraction; A is not written. -/
def State.compareA (s : State) (x : Byte) : State :=
  s.setFlags (setArith (sub8 s.regs.a x false).r (sub8 s.regs.a x false).cy (sub8 s.regs.a x false).ac s.flags)

/-- A rotate: A and CY take the rotated pair, no other flag changes (R242 to R245). -/
def State.rotateA (s : State) (o : Byte × Bool) : State := (s.regWrite .a o.1).setFlags (setCy o.2 s.flags)

/-! ## One meaning per instruction -/

/-- ANA B (R230). -/
def execAnaB (s : State) : Host.Outcome State Fault Refusal :=
  .next (s.andA (s.regRead .b))

/-- ANA C (R230). -/
def execAnaC (s : State) : Host.Outcome State Fault Refusal :=
  .next (s.andA (s.regRead .c))

/-- ANA D (R230). -/
def execAnaD (s : State) : Host.Outcome State Fault Refusal :=
  .next (s.andA (s.regRead .d))

/-- ANA E (R230). -/
def execAnaE (s : State) : Host.Outcome State Fault Refusal :=
  .next (s.andA (s.regRead .e))

/-- ANA H (R230). -/
def execAnaH (s : State) : Host.Outcome State Fault Refusal :=
  .next (s.andA (s.regRead .h))

/-- ANA L (R230). -/
def execAnaL (s : State) : Host.Outcome State Fault Refusal :=
  .next (s.andA (s.regRead .l))

/-- ANA A (R230). -/
def execAnaA (s : State) : Host.Outcome State Fault Refusal :=
  .next (s.andA (s.regRead .a))

/-- ANA M (R231). -/
def execAnaM (s : State) : Host.Outcome State Fault Refusal :=
  .next (s.andA (s.regRead .m))

/-- ANI d8 (R232). -/
def execAni (d8 : Byte) (s : State) : Host.Outcome State Fault Refusal :=
  .next (s.andA d8)

/-- XRA B (R233). -/
def execXraB (s : State) : Host.Outcome State Fault Refusal :=
  .next (s.xorA (s.regRead .b))

/-- XRA C (R233). -/
def execXraC (s : State) : Host.Outcome State Fault Refusal :=
  .next (s.xorA (s.regRead .c))

/-- XRA D (R233). -/
def execXraD (s : State) : Host.Outcome State Fault Refusal :=
  .next (s.xorA (s.regRead .d))

/-- XRA E (R233). -/
def execXraE (s : State) : Host.Outcome State Fault Refusal :=
  .next (s.xorA (s.regRead .e))

/-- XRA H (R233). -/
def execXraH (s : State) : Host.Outcome State Fault Refusal :=
  .next (s.xorA (s.regRead .h))

/-- XRA L (R233). -/
def execXraL (s : State) : Host.Outcome State Fault Refusal :=
  .next (s.xorA (s.regRead .l))

/-- XRA A (R233). -/
def execXraA (s : State) : Host.Outcome State Fault Refusal :=
  .next (s.xorA (s.regRead .a))

/-- XRA M (R234). -/
def execXraM (s : State) : Host.Outcome State Fault Refusal :=
  .next (s.xorA (s.regRead .m))

/-- XRI d8 (R235). -/
def execXri (d8 : Byte) (s : State) : Host.Outcome State Fault Refusal :=
  .next (s.xorA d8)

/-- ORA B (R236). -/
def execOraB (s : State) : Host.Outcome State Fault Refusal :=
  .next (s.orA (s.regRead .b))

/-- ORA C (R236). -/
def execOraC (s : State) : Host.Outcome State Fault Refusal :=
  .next (s.orA (s.regRead .c))

/-- ORA D (R236). -/
def execOraD (s : State) : Host.Outcome State Fault Refusal :=
  .next (s.orA (s.regRead .d))

/-- ORA E (R236). -/
def execOraE (s : State) : Host.Outcome State Fault Refusal :=
  .next (s.orA (s.regRead .e))

/-- ORA H (R236). -/
def execOraH (s : State) : Host.Outcome State Fault Refusal :=
  .next (s.orA (s.regRead .h))

/-- ORA L (R236). -/
def execOraL (s : State) : Host.Outcome State Fault Refusal :=
  .next (s.orA (s.regRead .l))

/-- ORA A (R236). -/
def execOraA (s : State) : Host.Outcome State Fault Refusal :=
  .next (s.orA (s.regRead .a))

/-- ORA M (R237). -/
def execOraM (s : State) : Host.Outcome State Fault Refusal :=
  .next (s.orA (s.regRead .m))

/-- ORI d8 (R238). -/
def execOri (d8 : Byte) (s : State) : Host.Outcome State Fault Refusal :=
  .next (s.orA d8)

/-- CMP B (R239). -/
def execCmpB (s : State) : Host.Outcome State Fault Refusal :=
  .next (s.compareA (s.regRead .b))

/-- CMP C (R239). -/
def execCmpC (s : State) : Host.Outcome State Fault Refusal :=
  .next (s.compareA (s.regRead .c))

/-- CMP D (R239). -/
def execCmpD (s : State) : Host.Outcome State Fault Refusal :=
  .next (s.compareA (s.regRead .d))

/-- CMP E (R239). -/
def execCmpE (s : State) : Host.Outcome State Fault Refusal :=
  .next (s.compareA (s.regRead .e))

/-- CMP H (R239). -/
def execCmpH (s : State) : Host.Outcome State Fault Refusal :=
  .next (s.compareA (s.regRead .h))

/-- CMP L (R239). -/
def execCmpL (s : State) : Host.Outcome State Fault Refusal :=
  .next (s.compareA (s.regRead .l))

/-- CMP A (R239). -/
def execCmpA (s : State) : Host.Outcome State Fault Refusal :=
  .next (s.compareA (s.regRead .a))

/-- CMP M (R240). -/
def execCmpM (s : State) : Host.Outcome State Fault Refusal :=
  .next (s.compareA (s.regRead .m))

/-- CPI d8 (R241). -/
def execCpi (d8 : Byte) (s : State) : Host.Outcome State Fault Refusal :=
  .next (s.compareA d8)

/-- RLC (R242). -/
def execRlc (s : State) : Host.Outcome State Fault Refusal :=
  .next (s.rotateA (rotLeft s.regs.a))

/-- RRC (R243). -/
def execRrc (s : State) : Host.Outcome State Fault Refusal :=
  .next (s.rotateA (rotRight s.regs.a))

/-- RAL (R244). -/
def execRal (s : State) : Host.Outcome State Fault Refusal :=
  .next (s.rotateA (rotLeftCy s.regs.a s.flags.cy))

/-- RAR (R245). -/
def execRar (s : State) : Host.Outcome State Fault Refusal :=
  .next (s.rotateA (rotRightCy s.regs.a s.flags.cy))

/-- CMA (R246). -/
def execCma (s : State) : Host.Outcome State Fault Refusal :=
  .next (s.regWrite .a (BitVec.ofNat 8 (255 - s.regs.a.toNat)))

/-- CMC (R247). -/
def execCmc (s : State) : Host.Outcome State Fault Refusal :=
  .next (s.setFlags (setCy (!s.flags.cy) s.flags))

/-- STC (R248). -/
def execStc (s : State) : Host.Outcome State Fault Refusal :=
  .next (s.setFlags (setCy true s.flags))

end Sys2Proof.Machine
end

