-- ==== Sys2Proof/Machine/StackIo.lean ====
section
/-! DEFINITION. The meanings of the stack, I/O and machine-control instructions (45_stack_io_control.md R280 to R293). -/

namespace Sys2Proof.Machine

/-! ## Shared operations -/

/-- PUSH PSW with the fill bits `fill` (R281). -/
def State.pushPswWith (s : State) (fill : BitVec 3) : State := s.push16 (cat s.regs.a (packFlags fill s.flags))

/-- POP rp (R282). -/
def State.popPair (s : State) (p : RegPair) : State := s.popSp.pairWrite p s.popWord

/-- POP PSW (R283). -/
def State.popPswWord (s : State) : State :=
  (s.popSp.regWrite .a (hi8 s.popWord)).setFlags (unpackFlags (lo8 s.popWord))

/-- XTHL (R284): the word at SP and HL are exchanged. -/
def State.exchangeTopHl (s : State) : State := (s.write16 s.sp s.hl).pairWrite .hl (s.read16 s.sp)

/-- IN with the byte `v` found at the port (R286, 20_memory.md R90). -/
def State.inputByte (s : State) (port v : Byte) : State := (s.regWrite .a v).logEvent (.input port v)

/-- OUT (R287, 20_memory.md R91). -/
def State.outputByte (s : State) (port : Byte) : State := s.logEvent (.output port s.regs.a)

/-- The byte RIM reads when the SID level is `sid` (R292): bits 5 and 4 are 0. -/
def rimByte (sid : Bool) (c : Ctl) : Byte :=
  BitVec.ofNat 8 (sid.toNat * 128 + c.i75.toNat * 64 + 0 * 32 + 0 * 16 + c.inte.toNat * 8 + c.m75.toNat * 4 +
    c.m65.toNat * 2 + c.m55.toNat)

/-- SIM: mask set enable, A[3] = 1 (R293). -/
def simMasks (a : Byte) (c : Ctl) : Ctl :=
  if bitOf a 3 then { c with m55 := bitOf a 0, m65 := bitOf a 1, m75 := bitOf a 2 } else c

/-- SIM: reset RST 7.5, A[4] = 1 (R293). -/
def simReset75 (a : Byte) (c : Ctl) : Ctl := if bitOf a 4 then { c with i75 := false } else c

/-- SIM: serial output enable, A[6] = 1 (R293). -/
def simSerial (a : Byte) (c : Ctl) : Ctl := if bitOf a 6 then { c with sod := bitOf a 7 } else c

/-- SIM (R293): its three effects in order. -/
def simCtl (a : Byte) (c : Ctl) : Ctl := simSerial a (simReset75 a (simMasks a c))

/-! ## One meaning per instruction -/

/-- PUSH B (R280). -/
def execPushB (s : State) : Host.Outcome State Fault Refusal :=
  .next (s.push16 (s.pairRead .bc))

/-- PUSH D (R280). -/
def execPushD (s : State) : Host.Outcome State Fault Refusal :=
  .next (s.push16 (s.pairRead .de))

/-- PUSH H (R280). -/
def execPushH (s : State) : Host.Outcome State Fault Refusal :=
  .next (s.push16 (s.pairRead .hl))

/-- PUSH PSW (R281). -/
def execPushPsw (s : State) : Host.Outcome State Fault Refusal :=
  .next ((s.pushPswWith (Config.pswFill s.draws)).countDraw)

/-- POP B (R282). -/
def execPopB (s : State) : Host.Outcome State Fault Refusal :=
  .next (s.popPair .bc)

/-- POP D (R282). -/
def execPopD (s : State) : Host.Outcome State Fault Refusal :=
  .next (s.popPair .de)

/-- POP H (R282). -/
def execPopH (s : State) : Host.Outcome State Fault Refusal :=
  .next (s.popPair .hl)

/-- POP PSW (R283). -/
def execPopPsw (s : State) : Host.Outcome State Fault Refusal :=
  .next (s.popPswWord)

/-- XTHL (R284). -/
def execXthl (s : State) : Host.Outcome State Fault Refusal :=
  .next (s.exchangeTopHl)

/-- SPHL (R285). -/
def execSphl (s : State) : Host.Outcome State Fault Refusal :=
  .next (s.setSp s.hl)

/-- IN port (R286). -/
def execInPort (port : Byte) (s : State) : Host.Outcome State Fault Refusal :=
  .next ((s.inputByte port (Config.ioRead s.draws port)).countDraw)

/-- OUT port (R287). -/
def execOutPort (port : Byte) (s : State) : Host.Outcome State Fault Refusal :=
  .next (s.outputByte port)

/-- EI (R288). -/
def execEi (s : State) : Host.Outcome State Fault Refusal :=
  .next (s.setCtl { s.ctl with inte := true })

/-- DI (R289). -/
def execDi (s : State) : Host.Outcome State Fault Refusal :=
  .next (s.setCtl { s.ctl with inte := false })

/-- HLT (R290). -/
def execHlt (s : State) : Host.Outcome State Fault Refusal :=
  .next (s.signalHalt)

/-- NOP (R291). -/
def execNop (s : State) : Host.Outcome State Fault Refusal :=
  .next s

/-- RIM (R292). -/
def execRim (s : State) : Host.Outcome State Fault Refusal :=
  .next ((s.regWrite .a (rimByte (Config.sidRead s.draws) s.ctl)).countDraw)

/-- SIM (R293). -/
def execSim (s : State) : Host.Outcome State Fault Refusal :=
  .next (s.setCtl (simCtl s.regs.a s.ctl))

end Sys2Proof.Machine
end

