-- ==== Sys2Proof/Machine/Step.lean ====
section
/-! DEFINITION. One step of the engine (40_execution_cycle.md R140), the run loop over it, and the host's placing of an instruction where
the step fetches. -/

namespace Sys2Proof.Machine

/-- What follows the execution of an instruction: a next state is counted. -/
def finishInstr : Host.Outcome State Fault Refusal → Host.Outcome State Fault Refusal
  | .next t => .next t.retire
  | .fault f => .fault f
  | .refused r => .refused r

/-- `step()` (R140), with the priority of 60_exceptions.md R308. A halted or faulted state has no step (R142); a reached limit and an opcode
byte with no entry are steps that set `fault` and nothing else (R143, R301, entry 6). -/
def step (s : State) : Host.Outcome State Fault Refusal :=
  match s.noStep with
  | some f => .fault f
  | none =>
    if s.limitReached then .next s.raiseStepLimit
    else
      match s.fetch with
      | none => .next s.raiseIllegalOpcode
      | some i => finishInstr (exec i (s.advance i))

/-- The run loop (70_reset_and_hazards.md R330, R338) for at most `n` steps: it stops in the first state that has no step. -/
def runLoop : Nat → State → State
  | 0, s => s
  | n + 1, s =>
    match step s with
    | .next t => runLoop n t
    | .fault _ => s
    | .refused _ => s

/-- `s` with the instruction of the table word `w` of `nbits` bits stored at PC, where `step` fetches (entry 8). -/
def State.withFetchWord (s : State) (nbits w : Nat) : State :=
  ((s.write s.pc (tableByte nbits w 0)).write (s.pc + 1#16) (tableByte nbits w 1)).write (s.pc + 2#16) (tableByte nbits w 2)

end Sys2Proof.Machine
end

