-- ==== Sys2Proof/Machine/Assembler.lean ====
section
/-! DEFINITION. The mnemonic encoder (30_encoding.md R116 to R126): software outside the block (00_scope.md R6) whose syntax is in scope
(R4). A line is a list of characters. Its errors are values of its own and never set `fault` (60_exceptions.md R304). -/

namespace Sys2Proof.Machine

/-! ## Tokens -/

/-- The encoder's errors (R121, R122). -/
inductive AsmError where
  | unknownMnemonic
  | invalidOperand
  | malformedImmediate
  deriving DecidableEq, Repr

/-- A value or an error of the encoder. -/
inductive AsmResult (α : Type) where
  | ok (v : α)
  | error (e : AsmError)
  deriving DecidableEq, Repr

/-- Apply `f` to the value, if there is one. -/
def AsmResult.bind {α β : Type} (x : AsmResult α) (f : α → AsmResult β) : AsmResult β :=
  match x with
  | .ok v => f v
  | .error e => .error e

/-- Register letters (R117). -/
def regNames : List (List Char × Reg8) :=
  [(['B'], .b), (['C'], .c), (['D'], .d), (['E'], .e), (['H'], .h), (['L'], .l), (['M'], .m), (['A'], .a)]

/-- Pair names of INX, DCX, DAD, LXI, LDAX, STAX (R117, R119). -/
def pairNames : List (List Char × RegPair) :=
  [(['B'], .bc), (['D'], .de), (['H'], .hl), (['S', 'P'], .sp)]

/-- Pair names of PUSH and POP (R117, R119). -/
def stackPairNames : List (List Char × StackPair) :=
  [(['B'], .bc), (['D'], .de), (['H'], .hl), (['P', 'S', 'W'], .psw)]

/-- Restart digits (R117). -/
def restartDigits : List (List Char × BitVec 3) :=
  [(['0'], 0#3), (['1'], 1#3), (['2'], 2#3), (['3'], 3#3), (['4'], 4#3), (['5'], 5#3), (['6'], 6#3), (['7'], 7#3)]

/-- Hexadecimal digits, upper case only (R118). -/
def hexDigits : List (Char × Nat) :=
  [('0', 0), ('1', 1), ('2', 2), ('3', 3), ('4', 4), ('5', 5), ('6', 6), ('7', 7), ('8', 8), ('9', 9),
   ('A', 10), ('B', 11), ('C', 12), ('D', 13), ('E', 14), ('F', 15)]

/-- The text is a register letter or a pair name (R117). -/
def isName (tok : List Char) : Bool :=
  (regNames.lookup tok).isSome || (pairNames.lookup tok).isSome || (stackPairNames.lookup tok).isSome

/-- The number a text of hex digits denotes, the most significant digit first; `none` if a character is no hex digit (R118). -/
def hexValue : Nat → List Char → Option Nat
  | acc, [] => some acc
  | acc, ch :: rest =>
    match hexDigits.lookup ch with
    | some d => hexValue (acc * 16 + d) rest
    | none => none

/-- A hex slot of `digits` digits: a name in it is InvalidOperand (R121), any other text that is not exactly that many hex digits is
MalformedImmediate (R122). -/
def parseHex (digits : Nat) (tok : List Char) : AsmResult Nat :=
  if isName tok then .error .invalidOperand
  else if tok.length = digits then
    match hexValue 0 tok with
    | some v => .ok v
    | none => .error .malformedImmediate
  else .error .malformedImmediate

/-- A name slot: a text that is not one of its names is InvalidOperand (R121). -/
def parseName {α : Type} (names : List (List Char × α)) (tok : List Char) : AsmResult α :=
  match names.lookup tok with
  | some v => .ok v
  | none => .error .invalidOperand

/-! ## The table of mnemonics (R119) -/

/-- The operand field a mnemonic takes, with the form it makes. -/
inductive Template where
  | plain (f : Form)
  | reg (make : Reg8 → Form)
  | regReg (make : Reg8 → Reg8 → Form)
  | regImm8 (make : Reg8 → Byte → Form)
  | pair (make : RegPair → Form)
  | pairImm16 (make : RegPair → Word → Form)
  | stackPair (make : StackPair → Form)
  | addr16 (make : Word → Form)
  | imm8 (make : Byte → Form)
  | digit (make : BitVec 3 → Form)

/-- R119, row 1: no operand. -/
def mnemonicsPlain : List (List Char × Template) :=
  [(['N', 'O', 'P'], .plain .nop),
   (['H', 'L', 'T'], .plain .hlt),
   (['X', 'C', 'H', 'G'], .plain .xchg),
   (['X', 'T', 'H', 'L'], .plain .xthl),
   (['S', 'P', 'H', 'L'], .plain .sphl),
   (['P', 'C', 'H', 'L'], .plain .pchl),
   (['R', 'E', 'T'], .plain .ret),
   (['R', 'L', 'C'], .plain .rlc),
   (['R', 'R', 'C'], .plain .rrc),
   (['R', 'A', 'L'], .plain .ral),
   (['R', 'A', 'R'], .plain .rar),
   (['D', 'A', 'A'], .plain .daa),
   (['C', 'M', 'A'], .plain .cma),
   (['S', 'T', 'C'], .plain .stc),
   (['C', 'M', 'C'], .plain .cmc),
   (['E', 'I'], .plain .ei),
   (['D', 'I'], .plain .di),
   (['R', 'I', 'M'], .plain .rim),
   (['S', 'I', 'M'], .plain .sim),
   (['R', 'N', 'Z'], .plain (.rcond .nz)),
   (['R', 'Z'], .plain (.rcond .z)),
   (['R', 'N', 'C'], .plain (.rcond .nc)),
   (['R', 'C'], .plain (.rcond .c)),
   (['R', 'P', 'O'], .plain (.rcond .po)),
   (['R', 'P', 'E'], .plain (.rcond .pe)),
   (['R', 'P'], .plain (.rcond .p)),
   (['R', 'M'], .plain (.rcond .m))]

/-- R119, rows 2 to 4: register letters. -/
def mnemonicsReg : List (List Char × Template) :=
  [(['I', 'N', 'R'], .reg .inr),
   (['D', 'C', 'R'], .reg .dcr),
   (['A', 'D', 'D'], .reg (.alu .add)),
   (['A', 'D', 'C'], .reg (.alu .adc)),
   (['S', 'U', 'B'], .reg (.alu .sub)),
   (['S', 'B', 'B'], .reg (.alu .sbb)),
   (['A', 'N', 'A'], .reg (.alu .ana)),
   (['X', 'R', 'A'], .reg (.alu .xra)),
   (['O', 'R', 'A'], .reg (.alu .ora)),
   (['C', 'M', 'P'], .reg (.alu .cmp)),
   (['M', 'O', 'V'], .regReg .mov),
   (['M', 'V', 'I'], .regImm8 .mvi)]

/-- R119, rows 5 to 8 and 11: pairs and the restart digit. -/
def mnemonicsPair : List (List Char × Template) :=
  [(['I', 'N', 'X'], .pair .inx),
   (['D', 'C', 'X'], .pair .dcx),
   (['D', 'A', 'D'], .pair .dad),
   (['L', 'D', 'A', 'X'], .pair .ldax),
   (['S', 'T', 'A', 'X'], .pair .stax),
   (['L', 'X', 'I'], .pairImm16 .lxi),
   (['P', 'U', 'S', 'H'], .stackPair .push),
   (['P', 'O', 'P'], .stackPair .pop),
   (['R', 'S', 'T'], .digit .rst)]

/-- R119, row 9: a direct address. -/
def mnemonicsAddr : List (List Char × Template) :=
  [(['L', 'D', 'A'], .addr16 .lda),
   (['S', 'T', 'A'], .addr16 .sta),
   (['L', 'H', 'L', 'D'], .addr16 .lhld),
   (['S', 'H', 'L', 'D'], .addr16 .shld),
   (['J', 'M', 'P'], .addr16 .jmp),
   (['J', 'N', 'Z'], .addr16 (.jcond .nz)),
   (['J', 'Z'], .addr16 (.jcond .z)),
   (['J', 'N', 'C'], .addr16 (.jcond .nc)),
   (['J', 'C'], .addr16 (.jcond .c)),
   (['J', 'P', 'O'], .addr16 (.jcond .po)),
   (['J', 'P', 'E'], .addr16 (.jcond .pe)),
   (['J', 'P'], .addr16 (.jcond .p)),
   (['J', 'M'], .addr16 (.jcond .m)),
   (['C', 'A', 'L', 'L'], .addr16 .call),
   (['C', 'N', 'Z'], .addr16 (.ccond .nz)),
   (['C', 'Z'], .addr16 (.ccond .z)),
   (['C', 'N', 'C'], .addr16 (.ccond .nc)),
   (['C', 'C'], .addr16 (.ccond .c)),
   (['C', 'P', 'O'], .addr16 (.ccond .po)),
   (['C', 'P', 'E'], .addr16 (.ccond .pe)),
   (['C', 'P'], .addr16 (.ccond .p)),
   (['C', 'M'], .addr16 (.ccond .m))]

/-- R119, row 10: an 8-bit literal. -/
def mnemonicsImm : List (List Char × Template) :=
  [(['A', 'D', 'I'], .imm8 (.aluImm .add)),
   (['A', 'C', 'I'], .imm8 (.aluImm .adc)),
   (['S', 'U', 'I'], .imm8 (.aluImm .sub)),
   (['S', 'B', 'I'], .imm8 (.aluImm .sbb)),
   (['A', 'N', 'I'], .imm8 (.aluImm .ana)),
   (['X', 'R', 'I'], .imm8 (.aluImm .xra)),
   (['O', 'R', 'I'], .imm8 (.aluImm .ora)),
   (['C', 'P', 'I'], .imm8 (.aluImm .cmp)),
   (['I', 'N'], .imm8 .input),
   (['O', 'U', 'T'], .imm8 .output)]

/-- The lookup table, keyed by mnemonic (R119, R126). -/
def mnemonicTable : List (List Char × Template) :=
  mnemonicsPlain ++ mnemonicsReg ++ mnemonicsPair ++ mnemonicsAddr ++ mnemonicsImm

/-- The form a template makes of the operand texts. A wrong number of operands is InvalidOperand (R121). DESIGN CHOICE (entry 9): the number
is checked before any operand is read, so `ADI 1G,5` is InvalidOperand though R122 fits its first operand too; operands are then read left to
right, and the first bad one gives the error. -/
def Template.fill : Template → List (List Char) → AsmResult Form
  | .plain f, [] => .ok f
  | .reg make, [x] => (parseName regNames x).bind fun r => .ok (make r)
  | .regReg make, [x, y] => (parseName regNames x).bind fun dst => (parseName regNames y).bind fun src => .ok (make dst src)
  | .regImm8 make, [x, y] => (parseName regNames x).bind fun r => (parseHex 2 y).bind fun v => .ok (make r (BitVec.ofNat 8 v))
  | .pair make, [x] => (parseName pairNames x).bind fun p => .ok (make p)
  | .pairImm16 make, [x, y] => (parseName pairNames x).bind fun p => (parseHex 4 y).bind fun v => .ok (make p (BitVec.ofNat 16 v))
  | .stackPair make, [x] => (parseName stackPairNames x).bind fun p => .ok (make p)
  | .addr16 make, [x] => (parseHex 4 x).bind fun v => .ok (make (BitVec.ofNat 16 v))
  | .imm8 make, [x] => (parseHex 2 x).bind fun v => .ok (make (BitVec.ofNat 8 v))
  | .digit make, [x] => (parseName restartDigits x).bind fun n => .ok (make n)
  | _, _ => .error .invalidOperand

/-! ## Lines (R116) -/

/-- The text without its leading spaces. -/
def dropSpaces (cs : List Char) : List Char := cs.dropWhile (· == ' ')

/-- The text without its leading and trailing spaces. -/
def trimSpaces (cs : List Char) : List Char := (dropSpaces (dropSpaces cs).reverse).reverse

/-- The texts between commas. -/
def splitCommas : List Char → List (List Char)
  | [] => [[]]
  | ch :: rest =>
    match splitCommas rest with
    | [] => [[ch]]
    | tok :: toks => if ch = ',' then [] :: tok :: toks else (ch :: tok) :: toks

/-- The mnemonic of a line: the characters before the first space. -/
def lineMnemonic (line : List Char) : List Char := (trimSpaces line).takeWhile (· != ' ')

/-- The operand texts of a line: none if nothing follows the mnemonic. -/
def lineOperands (line : List Char) : List (List Char) :=
  match trimSpaces ((trimSpaces line).dropWhile (· != ' ')) with
  | [] => []
  | cs => (splitCommas cs).map trimSpaces

/-- The form of a line, or the encoder's error (R116 to R122). The mnemonic is looked up before any operand is read (DESIGN CHOICE, entry 9).
A form that does not exist (MOV M,M; LDAX H) is InvalidOperand (R121). -/
def parseLine (line : List Char) : AsmResult Form :=
  match mnemonicTable.lookup (lineMnemonic line) with
  | none => .error .unknownMnemonic
  | some t => (t.fill (lineOperands line)).bind fun f => if f.wellFormed then .ok f else .error .invalidOperand

/-- `encode(line)` (R120): the opcode byte, then the operand bytes. -/
def encodeLine (line : List Char) : AsmResult (List Byte) := (parseLine line).bind fun f => .ok (encodeForm f)

/-- `loadProgram(lines, load_address, memory)` (R123): the memory, and the error of the first failing line, which stops it and writes
nothing (R124). -/
def loadProgram : List (List Char) → Word → Memory → Memory × Option AsmError
  | [], _, m => (m, none)
  | line :: rest, addr, m =>
    match encodeLine line with
    | .ok bs => loadProgram rest (addr + BitVec.ofNat 16 bs.length) (m.writeBytes addr bs)
    | .error e => (m, some e)

end Sys2Proof.Machine

/-! ## The table entry's text (R115) -/

namespace Sys2Proof

/-- The operand shapes of R115. -/
inductive OperandShape where
  | none
  | register
  | registerPair
  | immediate8
  | immediate16
  | directAddress
  | memoryViaHL
  deriving DecidableEq, Repr

/-- The operand shape of a form: one with the operand M and no immediate is implicit-memory-via-HL (entry 10). -/
def Form.operandShape : Form → OperandShape
  | .mov dst src => if dst = .m ∨ src = .m then .memoryViaHL else .register
  | .alu _ src => if src = .m then .memoryViaHL else .register
  | .inr r => if r = .m then .memoryViaHL else .register
  | .dcr r => if r = .m then .memoryViaHL else .register
  | .mvi _ _ => .immediate8
  | .aluImm _ _ => .immediate8
  | .input _ => .immediate8
  | .output _ => .immediate8
  | .lxi _ _ => .immediate16
  | .lda _ => .directAddress
  | .sta _ => .directAddress
  | .lhld _ => .directAddress
  | .shld _ => .directAddress
  | .jmp _ => .directAddress
  | .jcond _ _ => .directAddress
  | .call _ => .directAddress
  | .ccond _ _ => .directAddress
  | .ldax _ => .registerPair
  | .stax _ => .registerPair
  | .inx _ => .registerPair
  | .dcx _ => .registerPair
  | .dad _ => .registerPair
  | .push _ => .registerPair
  | .pop _ => .registerPair
  | _ => .none

/-- The condition suffixes (R104). -/
def Cond.suffix : Cond → List Char
  | .nz => ['N', 'Z']
  | .z => ['Z']
  | .nc => ['N', 'C']
  | .c => ['C']
  | .po => ['P', 'O']
  | .pe => ['P', 'E']
  | .p => ['P']
  | .m => ['M']

/-- The register and M mnemonics of R106. -/
def AluOp.mnemonic : AluOp → List Char
  | .add => ['A', 'D', 'D']
  | .adc => ['A', 'D', 'C']
  | .sub => ['S', 'U', 'B']
  | .sbb => ['S', 'B', 'B']
  | .ana => ['A', 'N', 'A']
  | .xra => ['X', 'R', 'A']
  | .ora => ['O', 'R', 'A']
  | .cmp => ['C', 'M', 'P']

/-- The immediate mnemonics of R106. -/
def AluOp.immMnemonic : AluOp → List Char
  | .add => ['A', 'D', 'I']
  | .adc => ['A', 'C', 'I']
  | .sub => ['S', 'U', 'I']
  | .sbb => ['S', 'B', 'I']
  | .ana => ['A', 'N', 'I']
  | .xra => ['X', 'R', 'I']
  | .ora => ['O', 'R', 'I']
  | .cmp => ['C', 'P', 'I']

/-- The mnemonic text of a form (R115, R119). -/
def Form.mnemonic : Form → List Char
  | .mov _ _ => ['M', 'O', 'V']
  | .mvi _ _ => ['M', 'V', 'I']
  | .lxi _ _ => ['L', 'X', 'I']
  | .lda _ => ['L', 'D', 'A']
  | .sta _ => ['S', 'T', 'A']
  | .lhld _ => ['L', 'H', 'L', 'D']
  | .shld _ => ['S', 'H', 'L', 'D']
  | .ldax _ => ['L', 'D', 'A', 'X']
  | .stax _ => ['S', 'T', 'A', 'X']
  | .xchg => ['X', 'C', 'H', 'G']
  | .alu op _ => op.mnemonic
  | .aluImm op _ => op.immMnemonic
  | .inr _ => ['I', 'N', 'R']
  | .dcr _ => ['D', 'C', 'R']
  | .inx _ => ['I', 'N', 'X']
  | .dcx _ => ['D', 'C', 'X']
  | .dad _ => ['D', 'A', 'D']
  | .daa => ['D', 'A', 'A']
  | .rlc => ['R', 'L', 'C']
  | .rrc => ['R', 'R', 'C']
  | .ral => ['R', 'A', 'L']
  | .rar => ['R', 'A', 'R']
  | .cma => ['C', 'M', 'A']
  | .cmc => ['C', 'M', 'C']
  | .stc => ['S', 'T', 'C']
  | .jmp _ => ['J', 'M', 'P']
  | .jcond cond _ => 'J' :: cond.suffix
  | .call _ => ['C', 'A', 'L', 'L']
  | .ccond cond _ => 'C' :: cond.suffix
  | .ret => ['R', 'E', 'T']
  | .rcond cond => 'R' :: cond.suffix
  | .rst _ => ['R', 'S', 'T']
  | .pchl => ['P', 'C', 'H', 'L']
  | .push _ => ['P', 'U', 'S', 'H']
  | .pop _ => ['P', 'O', 'P']
  | .xthl => ['X', 'T', 'H', 'L']
  | .sphl => ['S', 'P', 'H', 'L']
  | .input _ => ['I', 'N']
  | .output _ => ['O', 'U', 'T']
  | .ei => ['E', 'I']
  | .di => ['D', 'I']
  | .rim => ['R', 'I', 'M']
  | .sim => ['S', 'I', 'M']
  | .hlt => ['H', 'L', 'T']
  | .nop => ['N', 'O', 'P']

/-- Register letters (R117). -/
def Reg8.text : Reg8 → List Char
  | .b => ['B']
  | .c => ['C']
  | .d => ['D']
  | .e => ['E']
  | .h => ['H']
  | .l => ['L']
  | .m => ['M']
  | .a => ['A']

/-- Pair names (R117). -/
def RegPair.text : RegPair → List Char
  | .bc => ['B']
  | .de => ['D']
  | .hl => ['H']
  | .sp => ['S', 'P']

/-- Pair names of PUSH and POP (R117). -/
def StackPair.text : StackPair → List Char
  | .bc => ['B']
  | .de => ['D']
  | .hl => ['H']
  | .psw => ['P', 'S', 'W']

/-- The hex digit of a number below 16 (R118). -/
def hexChar (n : Nat) : Char := (Machine.hexDigits.map (·.1)).getD n '0'

/-- Two hex digits. -/
def hex2 (v : Byte) : List Char := [hexChar (v.toNat / 16), hexChar (v.toNat % 16)]

/-- Four hex digits: `WXYZ` denotes 0xWXYZ (R118). -/
def hex4 (w : Word) : List Char := hex2 (hi8 w) ++ hex2 (lo8 w)

/-- The operand field of a form (R116, R119); empty if it has none. -/
def Form.operandText : Form → List Char
  | .mov dst src => dst.text ++ ',' :: src.text
  | .mvi dst d8 => dst.text ++ ',' :: hex2 d8
  | .lxi rp d16 => rp.text ++ ',' :: hex4 d16
  | .lda a16 => hex4 a16
  | .sta a16 => hex4 a16
  | .lhld a16 => hex4 a16
  | .shld a16 => hex4 a16
  | .ldax rp => rp.text
  | .stax rp => rp.text
  | .alu _ src => src.text
  | .aluImm _ d8 => hex2 d8
  | .inr r => r.text
  | .dcr r => r.text
  | .inx rp => rp.text
  | .dcx rp => rp.text
  | .dad rp => rp.text
  | .jmp a16 => hex4 a16
  | .jcond _ a16 => hex4 a16
  | .call a16 => hex4 a16
  | .ccond _ a16 => hex4 a16
  | .rst n => [hexChar n.toNat]
  | .push rp => rp.text
  | .pop rp => rp.text
  | .input port => hex2 port
  | .output port => hex2 port
  | _ => []

/-- The line of a form: its mnemonic, and one space and the operand field if there is one (R116). -/
def Form.line (f : Form) : List Char :=
  match f.operandText with
  | [] => f.mnemonic
  | cs => f.mnemonic ++ ' ' :: cs

end Sys2Proof
end

