-- ==== Sys2Proof/Machine/Launch.lean ====
section
/-! DEFINITION. The two ways a run starts (70_reset_and_hazards.md): the host's launch (R330, R331) and the hardware reset (R332). Neither is
a step; the host calls them. -/

namespace Sys2Proof.Machine

/-- What the host hands to `run` (R330): memory, the register file, and, where it supplies them, INTE, the masks and SOD. `params` and `draws`
are the model's own fields (entries 5 and 4). -/
structure LaunchImage where
  mem : Memory
  regs : Regs
  sp : Word
  flags : Flags
  inte : Option Bool
  m55 : Option Bool
  m65 : Option Bool
  m75 : Option Bool
  sod : Option Bool
  params : Params
  draws : Nat
  deriving DecidableEq, Repr

/-- `launch(memory, registers, start_pc)`: R330 with its defaults for what the host does not supply, then R331. -/
def launch (img : LaunchImage) (startPc : Word) : State where
  regs := img.regs
  pc := startPc
  sp := img.sp
  flags := img.flags
  ctl :=
    { inte := img.inte.getD false
      m55 := img.m55.getD true
      m65 := img.m65.getD true
      m75 := img.m75.getD true
      i75 := false
      sod := img.sod.getD false }
  halted := false
  fault := none
  steps := 0
  mem := img.mem
  trace := []
  params := img.params
  draws := img.draws

/-- The reset draws (00_scope.md R9): one value for every component the hardware reset does not set. -/
structure ResetDraws where
  regs : Regs
  sp : Word
  flags : Flags
  m55 : Bool
  m65 : Bool
  m75 : Bool
  sod : Bool
  deriving DecidableEq, Repr

/-- The hardware reset (R332) with the reset draws `d`: memory, the parameters and the draw counter are not changed. -/
def hardwareReset (d : ResetDraws) (s : State) : State where
  regs := d.regs
  pc := 0x0000#16
  sp := d.sp
  flags := d.flags
  ctl := { inte := false, m55 := d.m55, m65 := d.m65, m75 := d.m75, i75 := false, sod := d.sod }
  halted := false
  fault := none
  steps := 0
  mem := s.mem
  trace := []
  params := s.params
  draws := s.draws

end Sys2Proof.Machine
end

