-- ==== Sys2Proof/Safety.lean ====
section
/-! DEFINITION. The terms the claims use: which states fetch, which are reachable, the invariant of the machine, and the result flags written
out as 10_state.md R40 words them. -/

namespace Sys2Proof.Machine

/-- The state's next step fetches an instruction: it has a step (R142) and its limit is not reached (R143). -/
def State.Running (s : State) : Prop := s.fault = none ∧ s.halted = false ∧ s.limitReached = false

/-- A safe step: the machine goes on and raises no fault. -/
def State.StepsSafely (s : State) : Prop := ∃ t, step s = .next t ∧ t.fault = none

/-- The states of runs: launched on any canonical memory (R330), the model's reset state, reset again at any time (R332), or stepped to. -/
inductive Reachable : State → Prop where
  | launched (img : LaunchImage) (startPc : Word) (h : img.mem.wf = true) : Reachable (launch img startPc)
  | poweredOn : Reachable State.reset
  | hardwareReset (d : ResetDraws) (s : State) (h : Reachable s) : Reachable (hardwareReset d s)
  | stepped (s t : State) (h : Reachable s) (hs : step s = .next t) : Reachable t

/-- The invariant of the machine: memory is canonical (entry 3), I75 is stuck at 0 (R44), no state is both halted and faulted (R317), a fault
record says what the state shows (R301, R302, R309), and the step budget is kept (R143). -/
structure Inv (s : State) : Prop where
  mem : s.mem.wf = true
  i75 : s.ctl.i75 = false
  exclusive : s.halted = true → s.fault = none
  illegal : ∀ pc op, s.fault = some (.illegalOpcode pc op) → pc = s.pc ∧ op = s.read s.pc ∧ op ∈ illegalOpcodes
  limit : ∀ n, s.fault = some (.stepLimitExceeded n) → n = s.steps ∧ s.params.stepLimit = some n
  budget : ∀ n, s.params.stepLimit = some n → s.steps ≤ n

/-- The flags Z, S, P as R40 gives them for a result: Z iff it is 0, S its bit 7, P iff it has an even number of 1 bits. -/
def Flags.ZspOf (f : Flags) (r : Byte) : Prop :=
  f.z = decide (r.toNat = 0) ∧ f.s = decide (128 ≤ r.toNat) ∧
  f.p = decide ((List.range 8).countP (fun k => r.getLsbD k) % 2 = 0)

/-- An accumulator ALU instruction with its operation, its operand in state `s`, and its bytes (30_encoding.md R106). -/
inductive AluForm (i : Instr) (s : State) : AluOp → Byte → List Byte → Prop where
  | reg (op : AluOp) (r : Reg8) (h : i.form = .alu op r) :
      AluForm i s op (s.regRead r) [BitVec.ofNat 8 (0x80 + 8 * op.code.toNat + r.code.toNat)]
  | imm (op : AluOp) (v : Byte) (h : i.form = .aluImm op v) :
      AluForm i s op v [BitVec.ofNat 8 (0xC6 + 8 * op.code.toNat), v]

/-- Every byte of memory reads in `t` as in `s`. -/
def SameMemory (s t : State) : Prop := ∀ x : Word, t.read x = s.read x

/-- In `t` the cell `addr` holds `v` and every other cell reads as in `s`. -/
def StoredByte (s t : State) (addr : Word) (v : Byte) : Prop := ∀ x : Word, t.read x = if x = addr then v else s.read x

/-- In `t` the cell `addr` holds `lo`, the cell `addr +16 1` holds `hi`, and every other cell reads as in `s`. -/
def StoredWord (s t : State) (addr : Word) (lo hi : Byte) : Prop :=
  ∀ x : Word, t.read x = if x = addr then lo else if x = addr + 1#16 then hi else s.read x

/-- The register `r` holds `v` in `t` and every other register what it held in `s`; M is no register (R33). -/
def WroteReg (s t : State) (r : Reg8) (v : Byte) : Prop :=
  ∀ x : Reg8, x ≠ .m → t.regRead x = if x = r then v else s.regRead x

/-! ## The writer tables of the spec -/

/-- The condition names, read from the "true when" row of 30_encoding.md R104. -/
def CondTrue (cond : Cond) (f : Flags) : Prop :=
  match cond with
  | .nz => f.z = false
  | .z => f.z = true
  | .nc => f.cy = false
  | .c => f.cy = true
  | .po => f.p = false
  | .pe => f.p = true
  | .p => f.s = false
  | .m => f.s = true

/-- The forms that may write CY: the CY column of 10_state.md R42. -/
def mayWriteCy : Form → Bool
  | .alu _ _ | .aluImm _ _ | .daa | .dad _ | .rlc | .rrc | .ral | .rar | .stc | .cmc => true
  | .pop rp => rp == .psw
  | .mov _ _ | .mvi _ _ | .lxi _ _ | .lda _ | .sta _ | .lhld _ | .shld _ | .ldax _ | .stax _ | .xchg => false
  | .inr _ | .dcr _ | .inx _ | .dcx _ | .cma => false
  | .jmp _ | .jcond _ _ | .call _ | .ccond _ _ | .ret | .rcond _ | .rst _ | .pchl => false
  | .push _ | .xthl | .sphl | .input _ | .output _ | .ei | .di | .rim | .sim | .hlt | .nop => false

/-- The forms that may write Z, S, P and AC: the other columns of R42, whose rows are the same for the four. -/
def mayWriteZspAc : Form → Bool
  | .alu _ _ | .aluImm _ _ | .daa | .inr _ | .dcr _ => true
  | .pop rp => rp == .psw
  | .mov _ _ | .mvi _ _ | .lxi _ _ | .lda _ | .sta _ | .lhld _ | .shld _ | .ldax _ | .stax _ | .xchg => false
  | .inx _ | .dcx _ | .dad _ | .rlc | .rrc | .ral | .rar | .cma | .cmc | .stc => false
  | .jmp _ | .jcond _ _ | .call _ | .ccond _ _ | .ret | .rcond _ | .rst _ | .pchl => false
  | .push _ | .xthl | .sphl | .input _ | .output _ | .ei | .di | .rim | .sim | .hlt | .nop => false

/-- The registers that are halves of a pair (R34). -/
def halfOf : RegPair → Reg8 → Bool
  | .bc, r => r == .b || r == .c
  | .de, r => r == .d || r == .e
  | .hl, r => r == .h || r == .l
  | .sp, _ => false

/-- The registers POP loads (45_stack_io_control.md R282, R283). -/
def poppedReg : StackPair → Reg8 → Bool
  | .bc, r => halfOf .bc r
  | .de, r => halfOf .de r
  | .hl, r => halfOf .hl r
  | .psw, r => r == .a

/-- The forms that may write the register `r`: the table of 10_state.md R36. -/
def mayWriteReg (f : Form) (r : Reg8) : Bool :=
  match f with
  | .mov dst _ => r == dst
  | .mvi dst _ => r == dst
  | .inr dst => r == dst
  | .dcr dst => r == dst
  | .lxi rp _ => halfOf rp r
  | .inx rp => halfOf rp r
  | .dcx rp => halfOf rp r
  | .pop rp => poppedReg rp r
  | .alu op _ => r == .a && op != .cmp
  | .aluImm op _ => r == .a && op != .cmp
  | .lda _ | .ldax _ | .daa | .cma | .rlc | .rrc | .ral | .rar | .input _ | .rim => r == .a
  | .lhld _ | .dad _ | .xthl => halfOf .hl r
  | .xchg => halfOf .hl r || halfOf .de r
  | .sta _ | .shld _ | .stax _ | .cmc | .stc => false
  | .jmp _ | .jcond _ _ | .call _ | .ccond _ _ | .ret | .rcond _ | .rst _ | .pchl => false
  | .push _ | .sphl | .output _ | .ei | .di | .sim | .hlt | .nop => false

/-- The forms that may write SP in state `s`: the SP row of R36; a conditional call or return only when taken. -/
def mayWriteSp (s : State) (f : Form) : Bool :=
  match f with
  | .lxi rp _ => rp == .sp
  | .inx rp => rp == .sp
  | .dcx rp => rp == .sp
  | .ccond cond _ => condHolds cond s.flags
  | .rcond cond => condHolds cond s.flags
  | .sphl | .push _ | .pop _ | .call _ | .ret | .rst _ => true
  | .mov _ _ | .mvi _ _ | .lda _ | .sta _ | .lhld _ | .shld _ | .ldax _ | .stax _ | .xchg => false
  | .alu _ _ | .aluImm _ _ | .inr _ | .dcr _ | .dad _ | .daa | .rlc | .rrc | .ral | .rar | .cma | .cmc | .stc => false
  | .jmp _ | .jcond _ _ | .pchl | .xthl | .input _ | .output _ | .ei | .di | .rim | .sim | .hlt | .nop => false

/-- The cells a form stores to in state `s`: the writing rows of 20_memory.md R80. -/
def storedCells (s : State) (f : Form) : List Word :=
  match f with
  | .mov dst _ => if dst = .m then [s.hl] else []
  | .mvi dst _ => if dst = .m then [s.hl] else []
  | .inr dst => if dst = .m then [s.hl] else []
  | .dcr dst => if dst = .m then [s.hl] else []
  | .sta a16 => [a16]
  | .stax rp => [s.pairRead rp]
  | .shld a16 => [a16, a16 + 1#16]
  | .push _ | .call _ | .rst _ => [s.sp - 2#16, s.sp - 1#16]
  | .ccond cond _ => if condHolds cond s.flags then [s.sp - 2#16, s.sp - 1#16] else []
  | .xthl => [s.sp, s.sp + 1#16]
  | .lxi _ _ | .lda _ | .lhld _ | .ldax _ | .xchg => []
  | .alu _ _ | .aluImm _ _ | .inx _ | .dcx _ | .dad _ | .daa | .rlc | .rrc | .ral | .rar | .cma | .cmc | .stc => []
  | .jmp _ | .jcond _ _ | .ret | .rcond _ | .pchl => []
  | .pop _ | .sphl | .input _ | .output _ | .ei | .di | .rim | .sim | .hlt | .nop => []

end Sys2Proof.Machine
end

