-- ==== Sys2Proof/Certificates/Slice0/Obligations.lean ====
section
/-! DEFINITION. The statements for the provers. In every statement about `exec i s`, the PC of `s` is already `pc_next`
(40_execution_cycle.md R140, R141, entry 7); StepRunsTheDecodedInstruction ties `exec` to `step`. `t = { s with f := t.f }` says that no
field but `f` changed. -/

open Sys2Proof Sys2Proof.Machine

/-- MOV copies the source operand to the destination and changes nothing else (R180, R181, R182). -/
def Obligations.MovCopiesSourceToDestination : Prop :=
  ∀ (i : Instr) (dst src : Reg8) (s : State), i.form = .mov dst src →
    encode i = [BitVec.ofNat 8 (0x40 + 8 * dst.code.toNat + src.code.toNat)] ∧ ¬(dst = .m ∧ src = .m) ∧
    ∃ t, exec i s = .next t ∧
      (dst ≠ .m → t = { s with regs := t.regs } ∧ WroteReg s t dst (s.regRead src) ∧ SameMemory s t) ∧
      (dst = .m → t = { s with mem := t.mem } ∧ StoredByte s t s.hl (s.regRead src))

/-- MVI stores its immediate in the destination and changes nothing else (R183, R184). -/
def Obligations.MviLoadsTheImmediate : Prop :=
  ∀ (i : Instr) (dst : Reg8) (d8 : Byte) (s : State), i.form = .mvi dst d8 →
    encode i = [BitVec.ofNat 8 (0x06 + 8 * dst.code.toNat), d8] ∧
    ∃ t, exec i s = .next t ∧
      (dst ≠ .m → t = { s with regs := t.regs } ∧ WroteReg s t dst d8 ∧ SameMemory s t) ∧
      (dst = .m → t = { s with mem := t.mem } ∧ StoredByte s t s.hl d8)

/-- LXI loads a register pair with its 16-bit immediate, low byte first (R185). -/
def Obligations.LxiLoadsThePair : Prop :=
  ∀ (i : Instr) (rp : RegPair) (b1 b2 : Byte) (s : State), i.form = .lxi rp (cat b2 b1) →
    encode i = [BitVec.ofNat 8 (0x01 + 16 * rp.code.toNat), b1, b2] ∧
    ∃ t, exec i s = .next t ∧ t = { s with regs := t.regs, sp := t.sp } ∧ SameMemory s t ∧
      t.regs.a = s.regs.a ∧ (∀ q, t.pairRead q = if q = rp then cat b2 b1 else s.pairRead q) ∧
      (rp = .bc → t.regs.b = b2 ∧ t.regs.c = b1) ∧ (rp = .de → t.regs.d = b2 ∧ t.regs.e = b1) ∧
      (rp = .hl → t.regs.h = b2 ∧ t.regs.l = b1) ∧ (rp = .sp → t.sp = cat b2 b1)

/-- LDA and LDAX load A from memory and change nothing else (R186, R190). -/
def Obligations.LdaAndLdaxLoadTheAccumulator : Prop :=
  (∀ (i : Instr) (a16 : Word) (s : State), i.form = .lda a16 →
    encode i = [0x3A#8, lo8 a16, hi8 a16] ∧
    ∃ t, exec i s = .next t ∧ t = { s with regs := t.regs } ∧ WroteReg s t .a (s.read a16) ∧ SameMemory s t) ∧
  (∀ (i : Instr) (rp : RegPair) (s : State), i.form = .ldax rp →
    (rp = .bc ∨ rp = .de) ∧ encode i = [BitVec.ofNat 8 (0x0A + 16 * rp.code.toNat)] ∧
    ∃ t, exec i s = .next t ∧ t = { s with regs := t.regs } ∧ WroteReg s t .a (s.read (s.pairRead rp)) ∧ SameMemory s t)

/-- STA and STAX store A to memory and change nothing else (R187, R191). -/
def Obligations.StaAndStaxStoreTheAccumulator : Prop :=
  (∀ (i : Instr) (a16 : Word) (s : State), i.form = .sta a16 →
    encode i = [0x32#8, lo8 a16, hi8 a16] ∧
    ∃ t, exec i s = .next t ∧ t = { s with mem := t.mem } ∧ StoredByte s t a16 s.regs.a) ∧
  (∀ (i : Instr) (rp : RegPair) (s : State), i.form = .stax rp →
    (rp = .bc ∨ rp = .de) ∧ encode i = [BitVec.ofNat 8 (0x02 + 16 * rp.code.toNat)] ∧
    ∃ t, exec i s = .next t ∧ t = { s with mem := t.mem } ∧ StoredByte s t (s.pairRead rp) s.regs.a)

/-- LHLD and SHLD move HL from and to memory, L at the lower address (R188, R189). -/
def Obligations.LhldAndShldMoveHlLittleEndian : Prop :=
  (∀ (i : Instr) (a16 : Word) (s : State), i.form = .lhld a16 →
    encode i = [0x2A#8, lo8 a16, hi8 a16] ∧
    ∃ t, exec i s = .next t ∧ t = { s with regs := t.regs } ∧ SameMemory s t ∧
      t.regs = { s.regs with l := s.read a16, h := s.read (a16 + 1#16) }) ∧
  (∀ (i : Instr) (a16 : Word) (s : State), i.form = .shld a16 →
    encode i = [0x22#8, lo8 a16, hi8 a16] ∧
    ∃ t, exec i s = .next t ∧ t = { s with mem := t.mem } ∧ StoredWord s t a16 s.regs.l s.regs.h)

/-- XCHG exchanges DE with HL and changes nothing else; twice restores both (R192). -/
def Obligations.XchgExchangesDeAndHl : Prop :=
  ∀ (i : Instr) (s : State), i.form = .xchg →
    encode i = [0xEB#8] ∧
    ∃ t, exec i s = .next t ∧ t = { s with regs := t.regs } ∧ SameMemory s t ∧
      t.regs = { s.regs with h := s.regs.d, l := s.regs.e, d := s.regs.h, e := s.regs.l } ∧
      exec i t = .next s

/-- ADD, ADI, ADC, ACI add the operand (and CY) to A and write all five flags (R200, R201, R202, R203, R204, R205). -/
def Obligations.AddAndAdcAddToTheAccumulator : Prop :=
  ∀ (i : Instr) (s : State) (op : AluOp) (x : Byte) (bytes : List Byte), AluForm i s op x bytes → op = .add ∨ op = .adc →
    encode i = bytes ∧
    ∃ t, exec i s = .next t ∧ t = { s with regs := t.regs, flags := t.flags } ∧ SameMemory s t ∧
      let c := if op = .adc then s.flags.cy.toNat else 0
      WroteReg s t .a (BitVec.ofNat 8 (s.regs.a.toNat + x.toNat + c)) ∧ t.flags.ZspOf t.regs.a ∧
      t.flags.cy = decide (255 < s.regs.a.toNat + x.toNat + c) ∧
      t.flags.ac = decide (15 < s.regs.a.toNat % 16 + x.toNat % 16 + c)

/-- SUB, SUI, SBB, SBI subtract the operand (and CY) from A and write all five flags (R206, R207, R208, R209, R210, R211). -/
def Obligations.SubAndSbbSubtractFromTheAccumulator : Prop :=
  ∀ (i : Instr) (s : State) (op : AluOp) (x : Byte) (bytes : List Byte), AluForm i s op x bytes → op = .sub ∨ op = .sbb →
    encode i = bytes ∧
    ∃ t, exec i s = .next t ∧ t = { s with regs := t.regs, flags := t.flags } ∧ SameMemory s t ∧
      let c := if op = .sbb then s.flags.cy.toNat else 0
      WroteReg s t .a (BitVec.ofNat 8 (512 + s.regs.a.toNat - x.toNat - c)) ∧ t.flags.ZspOf t.regs.a ∧
      t.flags.cy = decide (s.regs.a.toNat < x.toNat + c) ∧
      t.flags.ac = decide (s.regs.a.toNat % 16 < x.toNat % 16 + c)

/-- CMP and CPI write the flags of A minus the operand and leave A alone (R239, R240, R241). -/
def Obligations.CmpWritesTheFlagsOfTheDifference : Prop :=
  ∀ (i : Instr) (s : State) (x : Byte) (bytes : List Byte), AluForm i s .cmp x bytes →
    encode i = bytes ∧
    ∃ t, exec i s = .next t ∧ t = { s with flags := t.flags } ∧ SameMemory s t ∧
      t.flags.ZspOf (BitVec.ofNat 8 (256 + s.regs.a.toNat - x.toNat)) ∧ t.flags.z = decide (s.regs.a = x) ∧
      t.flags.cy = decide (s.regs.a.toNat < x.toNat) ∧
      t.flags.ac = decide (s.regs.a.toNat % 16 < x.toNat % 16)

/-- ANA and ANI AND the operand into A, clear CY and write AND_AC to AC (R230, R231, R232).
That AND_AC is held in State is the model's choice (entry 5). -/
def Obligations.AnaAndsIntoTheAccumulator : Prop :=
  ∀ (i : Instr) (s : State) (x : Byte) (bytes : List Byte), AluForm i s .ana x bytes →
    encode i = bytes ∧
    ∃ t, exec i s = .next t ∧ t = { s with regs := t.regs, flags := t.flags } ∧ SameMemory s t ∧
      WroteReg s t .a (s.regs.a &&& x) ∧ t.flags.ZspOf t.regs.a ∧ t.flags.cy = false ∧
      t.flags.ac = s.params.andAc ∧ (s.params = Params.hardware → t.flags.ac = false)

/-- XRA, XRI, ORA, ORI combine the operand into A and clear CY and AC (R233, R234, R235, R236, R237, R238). -/
def Obligations.XraAndOraCombineIntoTheAccumulator : Prop :=
  ∀ (i : Instr) (s : State) (op : AluOp) (x : Byte) (bytes : List Byte), AluForm i s op x bytes → op = .xra ∨ op = .ora →
    encode i = bytes ∧
    ∃ t, exec i s = .next t ∧ t = { s with regs := t.regs, flags := t.flags } ∧ SameMemory s t ∧
      WroteReg s t .a (if op = .xra then s.regs.a ^^^ x else s.regs.a ||| x) ∧ t.flags.ZspOf t.regs.a ∧
      t.flags.cy = false ∧ t.flags.ac = false

/-- INR and DCR step their operand by one, write Z, S, P, AC and keep CY (R212, R213, R214, R215). -/
def Obligations.InrAndDcrStepTheOperandAndKeepCy : Prop :=
  ∀ (i : Instr) (r : Reg8) (s : State), i.form = .inr r ∨ i.form = .dcr r →
    let up : Prop := i.form = .inr r
    let old := s.regRead r
    ∃ new t, exec i s = .next t ∧
      (up → encode i = [BitVec.ofNat 8 (0x04 + 8 * r.code.toNat)] ∧ new = BitVec.ofNat 8 (old.toNat + 1) ∧
        t.flags.ac = decide (old.toNat % 16 = 15)) ∧
      (¬up → encode i = [BitVec.ofNat 8 (0x05 + 8 * r.code.toNat)] ∧ new = BitVec.ofNat 8 (old.toNat + 255) ∧
        t.flags.ac = decide (old.toNat % 16 = 0)) ∧
      t.flags.ZspOf new ∧ t.flags.cy = s.flags.cy ∧
      (r ≠ .m → t = { s with regs := t.regs, flags := t.flags } ∧ WroteReg s t r new ∧ SameMemory s t) ∧
      (r = .m → t = { s with mem := t.mem, flags := t.flags } ∧ StoredByte s t s.hl new)

/-- INX and DCX step a register pair by one modulo 65536 and write no flag (R216, R217). -/
def Obligations.InxAndDcxStepThePairWithoutFlags : Prop :=
  ∀ (i : Instr) (rp : RegPair) (s : State), i.form = .inx rp ∨ i.form = .dcx rp →
    let up : Prop := i.form = .inx rp
    ∃ new t, exec i s = .next t ∧
      (up → encode i = [BitVec.ofNat 8 (0x03 + 16 * rp.code.toNat)] ∧ new = BitVec.ofNat 16 ((s.pairRead rp).toNat + 1)) ∧
      (¬up → encode i = [BitVec.ofNat 8 (0x0B + 16 * rp.code.toNat)] ∧ new = BitVec.ofNat 16 ((s.pairRead rp).toNat + 65535)) ∧
      t = { s with regs := t.regs, sp := t.sp } ∧ SameMemory s t ∧ t.regs.a = s.regs.a ∧
      ∀ q, t.pairRead q = if q = rp then new else s.pairRead q

/-- DAD adds a register pair to HL and writes CY only (R218). -/
def Obligations.DadAddsThePairToHl : Prop :=
  ∀ (i : Instr) (rp : RegPair) (s : State), i.form = .dad rp →
    encode i = [BitVec.ofNat 8 (0x09 + 16 * rp.code.toNat)] ∧
    ∃ t, exec i s = .next t ∧ t = { s with regs := t.regs, flags := t.flags } ∧ SameMemory s t ∧
      t.regs.a = s.regs.a ∧
      (∀ q, t.pairRead q = if q = .hl then BitVec.ofNat 16 (s.hl.toNat + (s.pairRead rp).toNat) else s.pairRead q) ∧
      t.flags = { s.flags with cy := decide (65535 < s.hl.toNat + (s.pairRead rp).toNat) } ∧
      (rp = .hl → t.hl.toNat = 2 * s.hl.toNat % 65536 ∧ (t.flags.cy = true ↔ 65536 ≤ 2 * s.hl.toNat))

/-- DAA applies the low and the high correction to A and writes all five flags (R219). -/
def Obligations.DaaCorrectsBothNibbles : Prop :=
  ∀ (i : Instr) (s : State), i.form = .daa →
    encode i = [0x27#8] ∧
    ∃ t, exec i s = .next t ∧ t = { s with regs := t.regs, flags := t.flags } ∧ SameMemory s t ∧
      let n := s.regs.a.toNat
      let low : Prop := 9 < n % 16 ∨ s.flags.ac = true
      let u := n + if 9 < n % 16 ∨ s.flags.ac = true then 6 else 0
      let high : Prop := 9 < u / 16 ∨ s.flags.cy = true
      WroteReg s t .a (BitVec.ofNat 8 (u + if 9 < u / 16 ∨ s.flags.cy = true then 96 else 0)) ∧ t.flags.ZspOf t.regs.a ∧
      (t.flags.cy = true ↔ s.flags.cy = true ∨ high) ∧ (t.flags.ac = true ↔ low ∧ 9 < n % 16)

/-- ADD or ADC of two packed-BCD bytes followed by DAA is decimal addition (42_arithmetic.md section 4, 00_scope.md section 6, R200, R203, R219). -/
def Obligations.DaaAfterAdditionIsDecimalAddition : Prop :=
  ∀ (i : Instr) (s : State) (op : AluOp) (x : Byte) (bytes : List Byte), AluForm i s op x bytes → op = .add ∨ op = .adc →
    let bcd (v : Byte) : Prop := v.toNat / 16 ≤ 9 ∧ v.toNat % 16 ≤ 9
    let value (v : Byte) : Nat := 10 * (v.toNat / 16) + v.toNat % 16
    bcd s.regs.a → bcd x →
    ∃ t u, exec i s = .next t ∧ exec .daa t = .next u ∧ bcd u.regs.a ∧
      value u.regs.a + 100 * u.flags.cy.toNat =
        value s.regs.a + value x + (if op = .adc then s.flags.cy.toNat else 0)

/-- RLC, RRC rotate A; RAL, RAR rotate A with CY; each writes CY only (R242, R243, R244, R245). -/
def Obligations.RotatesMoveABitThroughCarry : Prop :=
  ∀ (i : Instr) (s : State), i.form = .rlc ∨ i.form = .rrc ∨ i.form = .ral ∨ i.form = .rar →
    ∃ t, exec i s = .next t ∧ t = { s with regs := t.regs, flags := t.flags } ∧ SameMemory s t ∧
      t.regs = { s.regs with a := t.regs.a } ∧ t.flags = { s.flags with cy := t.flags.cy } ∧
      let nine (u : State) : BitVec 9 := BitVec.ofBool u.flags.cy ++ u.regs.a
      (i.form = .rlc → encode i = [0x07#8] ∧ t.regs.a = s.regs.a.rotateLeft 1 ∧ t.flags.cy = s.regs.a.getLsbD 7) ∧
      (i.form = .rrc → encode i = [0x0F#8] ∧ t.regs.a = s.regs.a.rotateRight 1 ∧ t.flags.cy = s.regs.a.getLsbD 0) ∧
      (i.form = .ral → encode i = [0x17#8] ∧ nine t = (nine s).rotateLeft 1) ∧
      (i.form = .rar → encode i = [0x1F#8] ∧ nine t = (nine s).rotateRight 1)

/-- CMA complements A without flags; CMC complements CY; STC sets CY (R246, R247, R248). -/
def Obligations.CmaCmcStcComplement : Prop :=
  (∀ (i : Instr) (s : State), i.form = .cma →
    encode i = [0x2F#8] ∧ ∃ t, exec i s = .next t ∧ t = { s with regs := t.regs } ∧ SameMemory s t ∧
      WroteReg s t .a (BitVec.ofNat 8 (255 - s.regs.a.toNat)) ∧ exec i t = .next s) ∧
  (∀ (i : Instr) (s : State), i.form = .cmc →
    encode i = [0x3F#8] ∧ ∃ t, exec i s = .next t ∧ t = { s with flags := { s.flags with cy := !s.flags.cy } } ∧
      SameMemory s t ∧ exec i t = .next s) ∧
  (∀ (i : Instr) (s : State), i.form = .stc →
    encode i = [0x37#8] ∧ ∃ t, exec i s = .next t ∧ t = { s with flags := { s.flags with cy := true } } ∧ SameMemory s t)

/-- JMP and PCHL set PC; a conditional jump sets it iff its condition holds (R260, R261, R267). -/
def Obligations.JumpsSetPc : Prop :=
  (∀ (i : Instr) (a16 : Word) (s : State), i.form = .jmp a16 →
    encode i = [0xC3#8, lo8 a16, hi8 a16] ∧ ∃ t, exec i s = .next t ∧ t = { s with pc := a16 } ∧ SameMemory s t) ∧
  (∀ (i : Instr) (s : State), i.form = .pchl →
    encode i = [0xE9#8] ∧ ∃ t, exec i s = .next t ∧ t = { s with pc := cat s.regs.h s.regs.l } ∧ SameMemory s t) ∧
  (∀ (i : Instr) (cond : Cond) (a16 : Word) (s : State), i.form = .jcond cond a16 →
    encode i = [BitVec.ofNat 8 (0xC2 + 8 * cond.code.toNat), lo8 a16, hi8 a16] ∧
    ∃ t, exec i s = .next t ∧ SameMemory s t ∧ (CondTrue cond s.flags → t = { s with pc := a16 }) ∧
      (¬CondTrue cond s.flags → t = s))

/-- CALL and RST push pc_next and set PC (R262, R266). -/
def Obligations.CallAndRstPushThenJump : Prop :=
  (∀ (i : Instr) (a16 : Word) (s : State), i.form = .call a16 →
    encode i = [0xCD#8, lo8 a16, hi8 a16] ∧
    ∃ t, exec i s = .next t ∧ t = { s with pc := a16, sp := s.sp - 2#16, mem := t.mem } ∧
      StoredWord s t (s.sp - 2#16) (lo8 s.pc) (hi8 s.pc)) ∧
  (∀ (i : Instr) (n : BitVec 3) (s : State), i.form = .rst n →
    encode i = [BitVec.ofNat 8 (0xC7 + 8 * n.toNat)] ∧
    ∃ t, exec i s = .next t ∧ t = { s with pc := BitVec.ofNat 16 (8 * n.toNat), sp := s.sp - 2#16, mem := t.mem } ∧
      StoredWord s t (s.sp - 2#16) (lo8 s.pc) (hi8 s.pc))

/-- A conditional call is a call if its condition holds and nothing if not (R263). -/
def Obligations.ConditionalCallPushesOnlyWhenTaken : Prop :=
  ∀ (i : Instr) (cond : Cond) (a16 : Word) (s : State), i.form = .ccond cond a16 →
    encode i = [BitVec.ofNat 8 (0xC4 + 8 * cond.code.toNat), lo8 a16, hi8 a16] ∧
    ∃ t, exec i s = .next t ∧
      (CondTrue cond s.flags → t = { s with pc := a16, sp := s.sp - 2#16, mem := t.mem } ∧
        StoredWord s t (s.sp - 2#16) (lo8 s.pc) (hi8 s.pc)) ∧
      (¬CondTrue cond s.flags → t = s)

/-- RET pops PC; a conditional return pops it iff its condition holds (R264, R265). -/
def Obligations.ReturnsPopPc : Prop :=
  (∀ (i : Instr) (s : State), i.form = .ret →
    encode i = [0xC9#8] ∧
    ∃ t, exec i s = .next t ∧ t = { s with pc := cat (s.read (s.sp + 1#16)) (s.read s.sp), sp := s.sp + 2#16 } ∧
      SameMemory s t) ∧
  (∀ (i : Instr) (cond : Cond) (s : State), i.form = .rcond cond →
    encode i = [BitVec.ofNat 8 (0xC0 + 8 * cond.code.toNat)] ∧
    ∃ t, exec i s = .next t ∧ SameMemory s t ∧
      (CondTrue cond s.flags → t = { s with pc := cat (s.read (s.sp + 1#16)) (s.read s.sp), sp := s.sp + 2#16 }) ∧
      (¬CondTrue cond s.flags → t = s))

/-- PUSH B, D, H store the pair below the stack pointer (R280). -/
def Obligations.PushStoresThePair : Prop :=
  ∀ (i : Instr) (rp : StackPair) (s : State), i.form = .push rp → rp ≠ .psw →
    encode i = [BitVec.ofNat 8 (0xC5 + 16 * rp.code.toNat)] ∧
    ∃ t, exec i s = .next t ∧ t = { s with sp := s.sp - 2#16, mem := t.mem } ∧
      (rp = .bc → StoredWord s t (s.sp - 2#16) s.regs.c s.regs.b) ∧
      (rp = .de → StoredWord s t (s.sp - 2#16) s.regs.e s.regs.d) ∧
      (rp = .hl → StoredWord s t (s.sp - 2#16) s.regs.l s.regs.h)

/-- PUSH PSW stores A and the flag byte, whose bits 5, 3, 1 are free; POP PSW discards them (45_stack_io_control.md section 1, R281, R41).
The draw counter is the model's own (entry 4). -/
def Obligations.PushPswStoresAAndTheFlagByte : Prop :=
  (∀ (i : Instr) (s : State), i.form = .push .psw →
    encode i = [0xF5#8] ∧
    ∃ t low, exec i s = .next t ∧ t = { s with sp := s.sp - 2#16, mem := t.mem, draws := s.draws + 1 } ∧
      StoredWord s t (s.sp - 2#16) low s.regs.a ∧
      low.getLsbD 7 = s.flags.s ∧ low.getLsbD 6 = s.flags.z ∧ low.getLsbD 4 = s.flags.ac ∧
      low.getLsbD 2 = s.flags.p ∧ low.getLsbD 0 = s.flags.cy ∧
      low.getLsbD 5 = (Config.pswFill s.draws).getLsbD 2 ∧ low.getLsbD 3 = (Config.pswFill s.draws).getLsbD 1 ∧
      low.getLsbD 1 = (Config.pswFill s.draws).getLsbD 0) ∧
  (∀ b : Byte, (unpackFlags b).s = b.getLsbD 7 ∧ (unpackFlags b).z = b.getLsbD 6 ∧ (unpackFlags b).ac = b.getLsbD 4 ∧
    (unpackFlags b).p = b.getLsbD 2 ∧ (unpackFlags b).cy = b.getLsbD 0)

/-- POP B, D, H load the pair from the stack; POP PSW loads A and the five flags (R282, R283). -/
def Obligations.PopLoadsThePair : Prop :=
  ∀ (i : Instr) (rp : StackPair) (s : State), i.form = .pop rp →
    let lo := s.read s.sp
    let hi := s.read (s.sp + 1#16)
    encode i = [BitVec.ofNat 8 (0xC1 + 16 * rp.code.toNat)] ∧
    ∃ t, exec i s = .next t ∧ t = { s with sp := s.sp + 2#16, regs := t.regs, flags := t.flags } ∧ SameMemory s t ∧
      (rp ≠ .psw → t.flags = s.flags) ∧
      (rp = .bc → t.regs = { s.regs with b := hi, c := lo }) ∧
      (rp = .de → t.regs = { s.regs with d := hi, e := lo }) ∧
      (rp = .hl → t.regs = { s.regs with h := hi, l := lo }) ∧
      (rp = .psw → t.regs = { s.regs with a := hi } ∧
        t.flags = ⟨lo.getLsbD 7, lo.getLsbD 6, lo.getLsbD 4, lo.getLsbD 2, lo.getLsbD 0⟩)

/-- XTHL exchanges HL with the top of the stack; SPHL copies HL to SP (R284, R285). -/
def Obligations.XthlExchangesAndSphlCopies : Prop :=
  (∀ (i : Instr) (s : State), i.form = .xthl →
    encode i = [0xE3#8] ∧
    ∃ t, exec i s = .next t ∧ t = { s with regs := t.regs, mem := t.mem } ∧
      t.regs = { s.regs with h := s.read (s.sp + 1#16), l := s.read s.sp } ∧
      StoredWord s t s.sp s.regs.l s.regs.h) ∧
  (∀ (i : Instr) (s : State), i.form = .sphl →
    encode i = [0xF9#8] ∧ ∃ t, exec i s = .next t ∧ t = { s with sp := cat s.regs.h s.regs.l } ∧ SameMemory s t)

/-- IN reads a free byte into A and OUT writes A, each as one trace event (45_stack_io_control.md section 2, R286, R287, R90, R91).
The draw counter is the model's own (entry 4). -/
def Obligations.InDrawsAByteAndOutLogsOne : Prop :=
  (∀ (i : Instr) (port : Byte) (s : State), i.form = .input port →
    encode i = [0xDB#8, port] ∧
    ∃ t v, exec i s = .next t ∧ v = Config.ioRead s.draws port ∧ SameMemory s t ∧
      t = { s with regs := { s.regs with a := v }, trace := s.trace ++ [.input port v], draws := s.draws + 1 }) ∧
  (∀ (i : Instr) (port : Byte) (s : State), i.form = .output port →
    encode i = [0xD3#8, port] ∧
    ∃ t, exec i s = .next t ∧ SameMemory s t ∧ t = { s with trace := s.trace ++ [.output port s.regs.a] })

/-- EI sets INTE and DI clears it, at once and alone (R288, R289). -/
def Obligations.EiAndDiSetInte : Prop :=
  ∀ (i : Instr) (s : State), i.form = .ei ∨ i.form = .di →
    ∃ t, exec i s = .next t ∧ SameMemory s t ∧
      (i.form = .ei → encode i = [0xFB#8] ∧ t = { s with ctl := { s.ctl with inte := true } }) ∧
      (i.form = .di → encode i = [0xF3#8] ∧ t = { s with ctl := { s.ctl with inte := false } })

/-- RIM reads the SID draw, I75, INTE and the masks into A and writes nothing else (45_stack_io_control.md section 3, R292).
The draw counter is the model's own (entry 4). -/
def Obligations.RimReadsTheControlBits : Prop :=
  ∀ (i : Instr) (s : State), i.form = .rim →
    encode i = [0x20#8] ∧
    ∃ t, exec i s = .next t ∧ t = { s with regs := { s.regs with a := t.regs.a }, draws := s.draws + 1 } ∧ SameMemory s t ∧
      t.regs.a.getLsbD 7 = Config.sidRead s.draws ∧ t.regs.a.getLsbD 6 = s.ctl.i75 ∧
      t.regs.a.getLsbD 5 = false ∧ t.regs.a.getLsbD 4 = false ∧ t.regs.a.getLsbD 3 = s.ctl.inte ∧
      t.regs.a.getLsbD 2 = s.ctl.m75 ∧ t.regs.a.getLsbD 1 = s.ctl.m65 ∧ t.regs.a.getLsbD 0 = s.ctl.m55

/-- SIM writes the masks, clears I75 and writes SOD as its enable bits in A say (R293). -/
def Obligations.SimWritesTheEnabledControlBits : Prop :=
  ∀ (i : Instr) (s : State), i.form = .sim →
    encode i = [0x30#8] ∧
    ∃ t, exec i s = .next t ∧ t = { s with ctl := t.ctl } ∧ SameMemory s t ∧ t.ctl.inte = s.ctl.inte ∧
      let bit (k : Nat) : Bool := s.regs.a.getLsbD k
      (bit 3 = true → t.ctl.m55 = bit 0 ∧ t.ctl.m65 = bit 1 ∧ t.ctl.m75 = bit 2) ∧
      (bit 3 = false → t.ctl.m55 = s.ctl.m55 ∧ t.ctl.m65 = s.ctl.m65 ∧ t.ctl.m75 = s.ctl.m75) ∧
      (bit 4 = true → t.ctl.i75 = false) ∧ (bit 4 = false → t.ctl.i75 = s.ctl.i75) ∧
      (bit 6 = true → t.ctl.sod = bit 7) ∧ (bit 6 = false → t.ctl.sod = s.ctl.sod)

/-- NOP changes nothing; HLT only sets halted, and its step leaves PC after it (45_stack_io_control.md section 4, R290, R291, R148, R142, R141, R47).
That a state with no step answers an Outcome fault is the model's choice (entry 6). -/
def Obligations.NopDoesNothingAndHltHalts : Prop :=
  (∀ (i : Instr) (s : State), i.form = .nop → encode i = [0x00#8] ∧ ∃ t, exec i s = .next t ∧ t = s ∧ SameMemory s t) ∧
  (∀ (i : Instr) (s : State), i.form = .hlt →
    encode i = [0x76#8] ∧ ∃ t, exec i s = .next t ∧ t = { s with halted := true } ∧ SameMemory s t) ∧
  (∀ s : State, s.Running → s.read s.pc = 0x76#8 →
    ∃ t, step s = .next t ∧ t = { s with pc := s.pc + 1#16, halted := true, steps := s.steps + 1 } ∧
      step t = .fault .halted)

/-- A step executes the instruction decoded at PC, with PC advanced past it, and counts it (40_execution_cycle.md section 1, R140, R141, R144, R145, R146, R47).
The order inside the step is the model's (entry 7). -/
def Obligations.StepRunsTheDecodedInstruction : Prop :=
  ∀ (s : State) (i : Instr) (rest : List Byte), s.Running →
    decode [s.read s.pc, s.read (s.pc + 1#16), s.read (s.pc + 2#16)] = .ok i rest →
    i.length + rest.length = 3 ∧
    ∃ t, exec i { s with pc := s.pc + BitVec.ofNat 16 i.length } = .next t ∧ step s = .next { t with steps := s.steps + 1 }

/-- Fetching a byte with no entry sets fault = IllegalOpcode(pc, opcode) and nothing else (60_exceptions.md section 1, R301, R112, R142, R303).
That a state with no step answers an Outcome fault is the model's choice (entry 6). -/
def Obligations.IllegalOpcodeStepOnlySetsFault : Prop :=
  ∀ s : State, s.Running →
    s.read s.pc ∈ [0x08#8, 0x10#8, 0x18#8, 0x28#8, 0x38#8, 0xCB#8, 0xD9#8, 0xDD#8, 0xED#8, 0xFD#8] →
    let r := FaultRecord.illegalOpcode s.pc (s.read s.pc)
    step s = .next { s with fault := some r } ∧ step { s with fault := some r } = .fault (.faulted r)

/-- A reached step limit sets fault = StepLimitExceeded(steps) before any fetch (R143).
That STEP_LIMIT is held in State is the model's choice (entry 5). -/
def Obligations.StepLimitStopsBeforeTheFetch : Prop :=
  (∀ (s : State) (n : Nat), s.params.stepLimit = some n → s.halted = false → s.fault = none → n ≤ s.steps →
    step s = .next { s with fault := some (.stepLimitExceeded s.steps) }) ∧
  (∀ (s t : State) (k : Nat), (∀ n, s.params.stepLimit = some n → s.steps < n) → step s = .next t →
    t.fault ≠ some (.stepLimitExceeded k))

/-- A state has no step exactly when it is halted or faulted; every other state steps (40_execution_cycle.md section 1, 60_exceptions.md section 3, R142, R143, R301, R303, R305, R308).
That a state with no step answers an Outcome fault is the model's choice (entry 6). -/
def Obligations.OnlyTerminalStatesHaveNoStep : Prop :=
  ∀ s : State,
    (∀ r, s.fault = some r → step s = .fault (.faulted r)) ∧
    (s.fault = none → s.halted = true → step s = .fault .halted) ∧
    (s.fault = none → s.halted = false →
      ∃ t, step s = .next t ∧
        (s.limitReached = true → t.fault = some (.stepLimitExceeded s.steps)) ∧
        (s.limitReached = false → s.read s.pc ∈ illegalOpcodes → t.fault = some (.illegalOpcode s.pc (s.read s.pc))) ∧
        (s.limitReached = false → s.read s.pc ∉ illegalOpcodes → t.fault = none ∧ t.steps = s.steps + 1))

/-- Decoding the encoding of any instruction, with any operands, gives it back (30_encoding.md section 1, R101, R110, R120). -/
def Obligations.DecodeInvertsEncode : Prop :=
  ∀ (i : Instr) (rest : List Byte), decode (encode i ++ rest) = .ok i rest

/-- What the decoder accepts is exactly the encoding of the instruction it reads (30_encoding.md section 3, R110, R112). -/
def Obligations.EncodeInvertsDecode : Prop :=
  ∀ (bytes rest : List Byte) (i : Instr), decode bytes = .ok i rest → bytes = encode i ++ rest

/-- Every form that exists is exactly one instruction, and MOV M,M and LDAX H are none (R113, R103, 30_encoding.md section 3). -/
def Obligations.EveryFormIsExactlyOneInstruction : Prop :=
  ∀ f : Form, (f.wellFormed = true → ∃ i : Instr, i.form = f ∧ ∀ j : Instr, j.form = f → j = i) ∧
    (f.wellFormed = false → ∀ i : Instr, i.form ≠ f) ∧
    (f.wellFormed = false ↔ f = .mov .m .m ∨ f = .ldax .hl ∨ f = .ldax .sp ∨ f = .stax .hl ∨ f = .stax .sp)

/-- The decoder rejects exactly the ten bytes with no entry (R112). -/
def Obligations.TheTenIllegalBytesAreExactlyRejected : Prop :=
  ∀ (op : Byte) (rest : List Byte), decode (op :: rest) = .illegalOpcode op ↔
    op ∈ [0x08#8, 0x10#8, 0x18#8, 0x28#8, 0x38#8, 0xCB#8, 0xD9#8, 0xDD#8, 0xED#8, 0xFD#8]

/-- An instruction’s length and its entry depend on the opcode byte alone (R111, R145). -/
def Obligations.LengthIsAFunctionOfTheOpcodeByte : Prop :=
  (∀ i j : Instr, (encode i).head? = (encode j).head? →
    i.length = j.length ∧ ∃ op b1 b2 c1 c2 : Byte, (encode i).head? = some op ∧
      (decodeEntry op).fill b1 b2 = some i ∧ (decodeEntry op).fill c1 c2 = some j) ∧
  (∀ i : Instr, ∃ (op : Byte) (operands : List Byte), encode i = op :: operands ∧
    (decodeEntry op).fill (operands.getD 0 0#8) (operands.getD 1 0#8) = some i) ∧
  (∀ (op : Byte) (bytes rest : List Byte) (i : Instr), decode (op :: bytes) = .ok i rest →
    ∃ b1 b2 : Byte, (decodeEntry op).fill b1 b2 = some i) ∧
  (∀ i : Instr, (encode i).length = i.length ∧
    (i.length = 3 ↔ (∃ p w, i.form = .lxi p w) ∨ (∃ w, i.form = .shld w ∨ i.form = .lhld w ∨ i.form = .sta w ∨ i.form = .lda w ∨
      i.form = .jmp w ∨ i.form = .call w) ∨ (∃ cond w, i.form = .jcond cond w ∨ i.form = .ccond cond w)) ∧
    (i.length = 2 ↔ (∃ r v, i.form = .mvi r v) ∨ (∃ op v, i.form = .aluImm op v) ∨ ∃ v, i.form = .input v ∨ i.form = .output v) ∧
    1 ≤ i.length ∧ i.length ≤ 3) ∧
  (∀ (op b1 b2 : Byte) (i : Instr), (decodeEntry op).fill b1 b2 = some i → (decodeEntry op).length = i.length)

/-- Words written out from the rules’ encoding lines decode to their instructions (30_encoding.md section 3, 41_data_transfer.md, 42_arithmetic.md, 43_logical.md, 44_branch.md, 45_stack_io_control.md). -/
def Obligations.SampleWordsDecode : Prop :=
  decode [0x78#8] = .ok .movAB [] ∧ decode [0x21#8, 0x51#8, 0xC0#8] = .ok (.lxiH 0xC051#16) [] ∧
  decode [0x96#8] = .ok .subM [] ∧ decode [0xE6#8, 0x0F#8] = .ok (.ani 0x0F#8) [] ∧
  decode [0xC2#8, 0x00#8, 0x30#8] = .ok (.jnz 0x3000#16) [] ∧ decode [0xFF#8] = .ok .rst7 [] ∧
  decode [0xF5#8] = .ok .pushPsw [] ∧ decode [0x76#8] = .ok .hlt [] ∧ decode [0xDB#8, 0x01#8] = .ok (.inPort 0x01#8) []

/-- The assembler encodes the line of every form, and its bytes decode back to that form (R125, 30_encoding.md section 4, R116, R119, R120). -/
def Obligations.AssemblerRoundTrip : Prop :=
  (∀ f : Form, f.wellFormed = true →
    encodeLine f.line = .ok (encodeForm f) ∧ ∃ i : Instr, i.form = f ∧ decode (encodeForm f) = .ok i []) ∧
  (∀ (line : List Char) (bytes : List Byte), encodeLine line = .ok bytes → ∃ i : Instr, bytes = encode i)

/-- loadProgram writes lines contiguously and stops at the first failing line, which writes nothing (R124, R123).
Which error a line gives may be the model's choice (entry 9), and this holds for each of them. -/
def Obligations.LoadProgramWritesUpToTheFirstError : Prop :=
  (∀ (good rest : List (List Char)) (bad : List Char) (addr : Word) (m : Memory) (e : AsmError),
    (loadProgram good addr m).2 = none → encodeLine bad = .error e →
    loadProgram (good ++ bad :: rest) addr m = ((loadProgram good addr m).1, some e)) ∧
  (∀ (line : List Char) (bytes : List Byte) (addr : Word) (m : Memory), encodeLine line = .ok bytes →
    ∃ m', (∀ rest, loadProgram (line :: rest) addr m = loadProgram rest (addr + BitVec.ofNat 16 bytes.length) m') ∧
      ∀ x : Word, m'.readByte x.toNat = bytes.getD (x - addr).toNat (m.readByte x.toNat))

/-- Canonical memories with the same bytes are equal, and writing a held value changes nothing (20_memory.md section 1, R74).
The canonical list is the model's choice (entry 3). -/
def Obligations.MemoryIsCanonical : Prop :=
  (∀ m n : Memory, m.wf = true → n.wf = true → (∀ x : Word, m.readByte x.toNat = n.readByte x.toNat) → m = n) ∧
  (∀ (s : State) (x : Word), s.mem.wf = true → s.write x (s.read x) = s)

/-- A pushed pair pops back: POP after PUSH restores A, the flags and SP, whatever the fill bits (44_branch.md section 1, R270, R271, R281, R283). -/
def Obligations.PushThenPopRestores : Prop :=
  (∀ s : State, ∃ t u, exec .pushPsw s = .next t ∧ exec .popPsw t = .next u ∧ u.regs = s.regs ∧ u.flags = s.flags ∧ u.sp = s.sp) ∧
  (∀ (s : State) (i j : Instr) (p q : StackPair), i.form = .push p → j.form = .pop q → p ≠ .psw → q ≠ .psw →
    ∃ t u, exec i s = .next t ∧ exec j t = .next u ∧ u.sp = s.sp ∧ u.flags = s.flags ∧
      let pair (v : State) (r : StackPair) : Word := match r with
        | .bc => v.bc
        | .de => v.de
        | .hl => v.hl
        | .psw => 0#16
      pair u q = pair s p ∧ ∀ r, r ≠ q → pair u r = pair s r)

/-- What a hardware reset and a launch set, and what they leave (70_reset_and_hazards.md section 1, 70_reset_and_hazards.md section 2, R330, R331, R332, R333).
The last clause is about the model's own reset values (entries 1 to 3). -/
def Obligations.ResetAndLaunchStartStates : Prop :=
  (∀ (d : ResetDraws) (s t : State), t = hardwareReset d s →
    t.pc = 0x0000#16 ∧ t.ctl.inte = false ∧ t.ctl.i75 = false ∧ t.halted = false ∧ t.fault = none ∧ t.steps = 0 ∧
    t.trace = [] ∧ SameMemory s t ∧ t.regs = d.regs ∧ t.sp = d.sp ∧ t.flags = d.flags ∧ t.ctl.m55 = d.m55 ∧
    t.ctl.m65 = d.m65 ∧ t.ctl.m75 = d.m75 ∧ t.ctl.sod = d.sod) ∧
  (∀ (img : LaunchImage) (startPc : Word) (t : State), t = launch img startPc →
    t.pc = startPc ∧ t.regs = img.regs ∧ t.sp = img.sp ∧ t.flags = img.flags ∧ t.mem = img.mem ∧
    t.ctl = ⟨img.inte.getD false, img.m55.getD true, img.m65.getD true, img.m75.getD true, false, img.sod.getD false⟩ ∧
    t.halted = false ∧ t.fault = none ∧ t.steps = 0 ∧ t.trace = []) ∧
  (∃ (d : ResetDraws) (s : State), State.reset = hardwareReset d s ∧ s.mem = [] ∧ s.params = Params.hardware)

/-- The invariant holds in the reset state (20_memory.md section 1, 10_state.md section 5, 60_exceptions.md section 5).
The reset state holds the model's own values (entries 1 to 3). -/
def Obligations.ResetSatisfiesTheInvariant : Prop :=
  Inv State.reset

/-- Every step from a state with the invariant keeps it (20_memory.md section 1, R44, R301, R303, R309, R317, R143).
The canonical list is the model's choice (entry 3). -/
def Obligations.EveryStepKeepsTheInvariant : Prop :=
  ∀ s t : State, Inv s → step s = .next t → Inv t

/-- No reachable state is both halted and faulted, and RIM never reads I75 = 1 (R317, R44, 60_exceptions.md section 5, 70_reset_and_hazards.md section 1, 70_reset_and_hazards.md section 2).
The canonical list is the model's choice (entry 3). -/
def Obligations.ReachableStatesAreFinishedOrFailedNotBoth : Prop :=
  ∀ s : State, Reachable s →
    (s.halted = true → s.fault = none) ∧ s.ctl.i75 = false ∧ s.mem.wf = true ∧
    (∀ pc op, s.fault = some (.illegalOpcode pc op) → pc = s.pc ∧ op = s.read s.pc ∧ op ∈ illegalOpcodes) ∧
    (∀ n, s.params.stepLimit = some n → s.steps ≤ n)

/-- Each flag changes only in the instructions the flag table lists for it (10_state.md section 4, R42, R161). -/
def Obligations.OnlyTheListedInstructionsWriteEachFlag : Prop :=
  ∀ (i : Instr) (s t : State), exec i s = .next t →
    (mayWriteCy i.form = false → t.flags.cy = s.flags.cy) ∧
    (mayWriteZspAc i.form = false →
      t.flags.z = s.flags.z ∧ t.flags.s = s.flags.s ∧ t.flags.p = s.flags.p ∧ t.flags.ac = s.flags.ac)

/-- Each register and SP change only in the instructions the register table lists (10_state.md section 2, R36). -/
def Obligations.OnlyTheListedInstructionsWriteEachRegister : Prop :=
  ∀ (i : Instr) (s t : State), exec i s = .next t →
    (∀ r, r ≠ .m → mayWriteReg i.form r = false → t.regRead r = s.regRead r) ∧
    (mayWriteSp s i.form = false → t.sp = s.sp)

/-- An instruction changes no byte of memory but the cells the access table lists (20_memory.md section 2, R80). -/
def Obligations.OnlyTheStoredCellsChange : Prop :=
  ∀ (i : Instr) (s t : State), exec i s = .next t → ∀ x : Word, x ∉ storedCells s i.form → t.read x = s.read x

/-- INTE, the masks, I75, SOD, halted, fault, steps, trace and parameters change only where listed (10_state.md section 5, 10_state.md section 6, R43, R44, R45, R46, R47, R9).
That the parameters of R9 are held in State is the model's choice (entry 5). -/
def Obligations.OnlyControlInstructionsWriteTheControlState : Prop :=
  ∀ (i : Instr) (s t : State), exec i s = .next t →
    (i.form ≠ .ei → i.form ≠ .di → t.ctl.inte = s.ctl.inte) ∧
    (i.form ≠ .sim → t.ctl = { s.ctl with inte := t.ctl.inte }) ∧
    (i.form ≠ .hlt → t.halted = s.halted) ∧ (i.form = .hlt → t.halted = true) ∧
    (∃ ev, t.trace = s.trace ++ ev ∧ ((∀ p, i.form ≠ .input p ∧ i.form ≠ .output p) → ev = [])) ∧
    t.fault = s.fault ∧ t.steps = s.steps ∧ t.params = s.params ∧ (s.ctl.i75 = false → t.ctl.i75 = false)

/-- INTE, the masks, I75 and SOD influence no instruction but RIM (60_exceptions.md section 2, R307). -/
def Obligations.ControlStateNeverInfluencesExecution : Prop :=
  (∀ (i : Instr) (s t : State) (c : Ctl), i.form ≠ .rim → i.form ≠ .ei → i.form ≠ .di → i.form ≠ .sim →
    exec i s = .next t → exec i { s with ctl := c } = .next { t with ctl := c }) ∧
  (∀ (s t : State) (c : Ctl), s.fetch ≠ some .rim → s.fetch ≠ some .ei → s.fetch ≠ some .di → s.fetch ≠ some .sim →
    step s = .next t → step { s with ctl := c } = .next { t with ctl := c }) ∧
  (∀ (s t : State) (b : Bool), s.fetch ≠ some .rim → s.fetch ≠ some .ei → s.fetch ≠ some .di → step s = .next t →
    step { s with ctl := { s.ctl with inte := b } } = .next { t with ctl := { t.ctl with inte := b } })
end

