-- ==== Sys2Proof/Laws/Bits.lean ====
section
/-! SUPPORT. The small lemmas of `hi8`, `lo8` and `cat` (00_scope.md R12). -/

namespace Sys2Proof

theorem toNat_cat (h l : Byte) : (cat h l).toNat = h.toNat * 256 + l.toNat := by
  simp only [cat, BitVec.toNat_append]
  rw [Nat.shiftLeft_eq, Nat.mul_comm, ← Nat.two_pow_add_eq_or_of_lt (by omega)]

theorem toNat_lo8 (w : Word) : (lo8 w).toNat = w.toNat % 256 := by
  simp [lo8, BitVec.extractLsb'_toNat]

theorem toNat_hi8 (w : Word) : (hi8 w).toNat = w.toNat / 256 := by
  simp only [hi8, BitVec.extractLsb'_toNat, Nat.shiftRight_eq_div_pow]
  omega

@[simp] theorem lo8_cat (h l : Byte) : lo8 (cat h l) = l := by
  apply BitVec.eq_of_toNat_eq
  rw [toNat_lo8, toNat_cat]
  omega

@[simp] theorem hi8_cat (h l : Byte) : hi8 (cat h l) = h := by
  apply BitVec.eq_of_toNat_eq
  rw [toNat_hi8, toNat_cat]
  omega

@[simp] theorem cat_hi8_lo8 (w : Word) : cat (hi8 w) (lo8 w) = w := by
  apply BitVec.eq_of_toNat_eq
  rw [toNat_cat, toNat_lo8, toNat_hi8]
  omega

theorem bitOf_7 (v : Byte) : bitOf v 7 = decide (128 ≤ v.toNat) := by
  revert v; decide

end Sys2Proof
end

