-- ==== Sys2Proof/Laws/Assembler.lean ====
section
/-! SUPPORT. The assembler's texts (30_encoding.md R116 to R118): hexadecimal operands and the parts of a line. -/

namespace Sys2Proof.Machine

/-- The hex digits read back. -/
theorem lookup_hexChar : ∀ n, n < 16 → hexDigits.lookup (hexChar n) = some n := by decide

/-- Two hex digits contribute the byte they denote. -/
theorem hexValue_hex2 (acc : Nat) (v : Byte) (rest : List Char) :
    hexValue acc (hex2 v ++ rest) = hexValue (acc * 256 + v.toNat) rest := by
  simp only [hex2, List.cons_append, List.nil_append, hexValue]
  rw [lookup_hexChar _ (by have := v.isLt; omega)]
  simp only []
  rw [lookup_hexChar _ (by omega)]
  simp only []
  congr 1
  omega

/-- Two hex digits are no register letter and no pair name. -/
theorem isName_hex2 : ∀ v : Byte, isName (hex2 v) = false := by decide

/-- No name has four characters. -/
theorem isName_four (a b c d : Char) : isName [a, b, c, d] = false := by
  simp [isName, regNames, pairNames, stackPairNames, List.lookup]

/-- An 8-bit literal reads back (R118). -/
theorem parseHex_hex2 (v : Byte) : parseHex 2 (hex2 v) = .ok v.toNat := by
  have h := hexValue_hex2 0 v []
  simp only [List.append_nil] at h
  unfold parseHex
  rw [isName_hex2, h]
  simp [hexValue, hex2]

/-- A 16-bit literal reads back (R118). -/
theorem parseHex_hex4 (w : Word) : parseHex 4 (hex4 w) = .ok w.toNat := by
  have h := (hexValue_hex2 0 (hi8 w) (hex2 (lo8 w) ++ [])).trans (hexValue_hex2 _ (lo8 w) [])
  have e : hex2 (hi8 w) ++ (hex2 (lo8 w) ++ []) = hex4 w := by simp [hex4]
  have e2 : isName (hex4 w) = false := isName_four _ _ _ _
  rw [e] at h
  unfold parseHex
  rw [e2, h]
  simp [hexValue, hex4, hex2, toNat_hi8, toNat_lo8]
  omega

/-- A text that starts with no space keeps its start. -/
theorem dropSpaces_eq_self {cs : List Char} (h : ∀ ch ∈ cs.head?, (ch == ' ') = false) : dropSpaces cs = cs := by
  cases cs with
  | nil => rfl
  | cons ch cs => simp [dropSpaces, List.dropWhile, h ch (by simp)]

/-- A text that starts and ends with no space is trimmed already. -/
theorem trimSpaces_eq_self {cs : List Char} (h1 : ∀ ch ∈ cs.head?, (ch == ' ') = false)
    (h2 : ∀ ch ∈ cs.getLast?, (ch == ' ') = false) : trimSpaces cs = cs := by
  unfold trimSpaces
  rw [dropSpaces_eq_self h1, dropSpaces_eq_self (by simpa using h2), List.reverse_reverse]

/-- A text without a comma is one operand. -/
theorem splitCommas_one {t : List Char} (h : ∀ ch ∈ t, ch ≠ ',') : splitCommas t = [t] := by
  induction t with
  | nil => rfl
  | cons ch cs ih => simp [splitCommas, ih (fun ch hc => h ch (by simp [hc])), h ch (by simp)]

/-- Two texts without a comma, separated by one, are two operands. -/
theorem splitCommas_two {t u : List Char} (h : ∀ ch ∈ t, ch ≠ ',') (hu : ∀ ch ∈ u, ch ≠ ',') :
    splitCommas (t ++ ',' :: u) = [t, u] := by
  induction t with
  | nil => simp [splitCommas, splitCommas_one hu]
  | cons ch cs ih => simp [splitCommas, ih (fun ch hc => h ch (by simp [hc])), h ch (by simp)]

end Sys2Proof.Machine
end

