-- ==== Sys2Proof/Laws/State.lean ====
section
/-! SUPPORT. One lemma per field per update of State, each true by rfl. -/

namespace Sys2Proof.Machine

@[simp] theorem State.setPc_regs (s : State) (w : Word) : (s.setPc w).regs = s.regs := rfl
@[simp] theorem State.setPc_pc (s : State) (w : Word) : (s.setPc w).pc = w := rfl
@[simp] theorem State.setPc_sp (s : State) (w : Word) : (s.setPc w).sp = s.sp := rfl
@[simp] theorem State.setPc_flags (s : State) (w : Word) : (s.setPc w).flags = s.flags := rfl
@[simp] theorem State.setPc_ctl (s : State) (w : Word) : (s.setPc w).ctl = s.ctl := rfl
@[simp] theorem State.setPc_halted (s : State) (w : Word) : (s.setPc w).halted = s.halted := rfl
@[simp] theorem State.setPc_fault (s : State) (w : Word) : (s.setPc w).fault = s.fault := rfl
@[simp] theorem State.setPc_steps (s : State) (w : Word) : (s.setPc w).steps = s.steps := rfl
@[simp] theorem State.setPc_mem (s : State) (w : Word) : (s.setPc w).mem = s.mem := rfl
@[simp] theorem State.setPc_trace (s : State) (w : Word) : (s.setPc w).trace = s.trace := rfl
@[simp] theorem State.setPc_params (s : State) (w : Word) : (s.setPc w).params = s.params := rfl
@[simp] theorem State.setPc_draws (s : State) (w : Word) : (s.setPc w).draws = s.draws := rfl

@[simp] theorem State.setSp_regs (s : State) (w : Word) : (s.setSp w).regs = s.regs := rfl
@[simp] theorem State.setSp_pc (s : State) (w : Word) : (s.setSp w).pc = s.pc := rfl
@[simp] theorem State.setSp_sp (s : State) (w : Word) : (s.setSp w).sp = w := rfl
@[simp] theorem State.setSp_flags (s : State) (w : Word) : (s.setSp w).flags = s.flags := rfl
@[simp] theorem State.setSp_ctl (s : State) (w : Word) : (s.setSp w).ctl = s.ctl := rfl
@[simp] theorem State.setSp_halted (s : State) (w : Word) : (s.setSp w).halted = s.halted := rfl
@[simp] theorem State.setSp_fault (s : State) (w : Word) : (s.setSp w).fault = s.fault := rfl
@[simp] theorem State.setSp_steps (s : State) (w : Word) : (s.setSp w).steps = s.steps := rfl
@[simp] theorem State.setSp_mem (s : State) (w : Word) : (s.setSp w).mem = s.mem := rfl
@[simp] theorem State.setSp_trace (s : State) (w : Word) : (s.setSp w).trace = s.trace := rfl
@[simp] theorem State.setSp_params (s : State) (w : Word) : (s.setSp w).params = s.params := rfl
@[simp] theorem State.setSp_draws (s : State) (w : Word) : (s.setSp w).draws = s.draws := rfl

@[simp] theorem State.setRegs_regs (s : State) (r : Regs) : (s.setRegs r).regs = r := rfl
@[simp] theorem State.setRegs_pc (s : State) (r : Regs) : (s.setRegs r).pc = s.pc := rfl
@[simp] theorem State.setRegs_sp (s : State) (r : Regs) : (s.setRegs r).sp = s.sp := rfl
@[simp] theorem State.setRegs_flags (s : State) (r : Regs) : (s.setRegs r).flags = s.flags := rfl
@[simp] theorem State.setRegs_ctl (s : State) (r : Regs) : (s.setRegs r).ctl = s.ctl := rfl
@[simp] theorem State.setRegs_halted (s : State) (r : Regs) : (s.setRegs r).halted = s.halted := rfl
@[simp] theorem State.setRegs_fault (s : State) (r : Regs) : (s.setRegs r).fault = s.fault := rfl
@[simp] theorem State.setRegs_steps (s : State) (r : Regs) : (s.setRegs r).steps = s.steps := rfl
@[simp] theorem State.setRegs_mem (s : State) (r : Regs) : (s.setRegs r).mem = s.mem := rfl
@[simp] theorem State.setRegs_trace (s : State) (r : Regs) : (s.setRegs r).trace = s.trace := rfl
@[simp] theorem State.setRegs_params (s : State) (r : Regs) : (s.setRegs r).params = s.params := rfl
@[simp] theorem State.setRegs_draws (s : State) (r : Regs) : (s.setRegs r).draws = s.draws := rfl

@[simp] theorem State.setFlags_regs (s : State) (f : Flags) : (s.setFlags f).regs = s.regs := rfl
@[simp] theorem State.setFlags_pc (s : State) (f : Flags) : (s.setFlags f).pc = s.pc := rfl
@[simp] theorem State.setFlags_sp (s : State) (f : Flags) : (s.setFlags f).sp = s.sp := rfl
@[simp] theorem State.setFlags_flags (s : State) (f : Flags) : (s.setFlags f).flags = f := rfl
@[simp] theorem State.setFlags_ctl (s : State) (f : Flags) : (s.setFlags f).ctl = s.ctl := rfl
@[simp] theorem State.setFlags_halted (s : State) (f : Flags) : (s.setFlags f).halted = s.halted := rfl
@[simp] theorem State.setFlags_fault (s : State) (f : Flags) : (s.setFlags f).fault = s.fault := rfl
@[simp] theorem State.setFlags_steps (s : State) (f : Flags) : (s.setFlags f).steps = s.steps := rfl
@[simp] theorem State.setFlags_mem (s : State) (f : Flags) : (s.setFlags f).mem = s.mem := rfl
@[simp] theorem State.setFlags_trace (s : State) (f : Flags) : (s.setFlags f).trace = s.trace := rfl
@[simp] theorem State.setFlags_params (s : State) (f : Flags) : (s.setFlags f).params = s.params := rfl
@[simp] theorem State.setFlags_draws (s : State) (f : Flags) : (s.setFlags f).draws = s.draws := rfl

@[simp] theorem State.setCtl_regs (s : State) (c : Ctl) : (s.setCtl c).regs = s.regs := rfl
@[simp] theorem State.setCtl_pc (s : State) (c : Ctl) : (s.setCtl c).pc = s.pc := rfl
@[simp] theorem State.setCtl_sp (s : State) (c : Ctl) : (s.setCtl c).sp = s.sp := rfl
@[simp] theorem State.setCtl_flags (s : State) (c : Ctl) : (s.setCtl c).flags = s.flags := rfl
@[simp] theorem State.setCtl_ctl (s : State) (c : Ctl) : (s.setCtl c).ctl = c := rfl
@[simp] theorem State.setCtl_halted (s : State) (c : Ctl) : (s.setCtl c).halted = s.halted := rfl
@[simp] theorem State.setCtl_fault (s : State) (c : Ctl) : (s.setCtl c).fault = s.fault := rfl
@[simp] theorem State.setCtl_steps (s : State) (c : Ctl) : (s.setCtl c).steps = s.steps := rfl
@[simp] theorem State.setCtl_mem (s : State) (c : Ctl) : (s.setCtl c).mem = s.mem := rfl
@[simp] theorem State.setCtl_trace (s : State) (c : Ctl) : (s.setCtl c).trace = s.trace := rfl
@[simp] theorem State.setCtl_params (s : State) (c : Ctl) : (s.setCtl c).params = s.params := rfl
@[simp] theorem State.setCtl_draws (s : State) (c : Ctl) : (s.setCtl c).draws = s.draws := rfl

@[simp] theorem State.signalHalt_regs (s : State) : (s.signalHalt).regs = s.regs := rfl
@[simp] theorem State.signalHalt_pc (s : State) : (s.signalHalt).pc = s.pc := rfl
@[simp] theorem State.signalHalt_sp (s : State) : (s.signalHalt).sp = s.sp := rfl
@[simp] theorem State.signalHalt_flags (s : State) : (s.signalHalt).flags = s.flags := rfl
@[simp] theorem State.signalHalt_ctl (s : State) : (s.signalHalt).ctl = s.ctl := rfl
@[simp] theorem State.signalHalt_halted (s : State) : (s.signalHalt).halted = true := rfl
@[simp] theorem State.signalHalt_fault (s : State) : (s.signalHalt).fault = s.fault := rfl
@[simp] theorem State.signalHalt_steps (s : State) : (s.signalHalt).steps = s.steps := rfl
@[simp] theorem State.signalHalt_mem (s : State) : (s.signalHalt).mem = s.mem := rfl
@[simp] theorem State.signalHalt_trace (s : State) : (s.signalHalt).trace = s.trace := rfl
@[simp] theorem State.signalHalt_params (s : State) : (s.signalHalt).params = s.params := rfl
@[simp] theorem State.signalHalt_draws (s : State) : (s.signalHalt).draws = s.draws := rfl

@[simp] theorem State.logEvent_regs (s : State) (ev : IoEvent) : (s.logEvent ev).regs = s.regs := rfl
@[simp] theorem State.logEvent_pc (s : State) (ev : IoEvent) : (s.logEvent ev).pc = s.pc := rfl
@[simp] theorem State.logEvent_sp (s : State) (ev : IoEvent) : (s.logEvent ev).sp = s.sp := rfl
@[simp] theorem State.logEvent_flags (s : State) (ev : IoEvent) : (s.logEvent ev).flags = s.flags := rfl
@[simp] theorem State.logEvent_ctl (s : State) (ev : IoEvent) : (s.logEvent ev).ctl = s.ctl := rfl
@[simp] theorem State.logEvent_halted (s : State) (ev : IoEvent) : (s.logEvent ev).halted = s.halted := rfl
@[simp] theorem State.logEvent_fault (s : State) (ev : IoEvent) : (s.logEvent ev).fault = s.fault := rfl
@[simp] theorem State.logEvent_steps (s : State) (ev : IoEvent) : (s.logEvent ev).steps = s.steps := rfl
@[simp] theorem State.logEvent_mem (s : State) (ev : IoEvent) : (s.logEvent ev).mem = s.mem := rfl
@[simp] theorem State.logEvent_trace (s : State) (ev : IoEvent) : (s.logEvent ev).trace = s.trace ++ [ev] := rfl
@[simp] theorem State.logEvent_params (s : State) (ev : IoEvent) : (s.logEvent ev).params = s.params := rfl
@[simp] theorem State.logEvent_draws (s : State) (ev : IoEvent) : (s.logEvent ev).draws = s.draws := rfl

@[simp] theorem State.countDraw_regs (s : State) : (s.countDraw).regs = s.regs := rfl
@[simp] theorem State.countDraw_pc (s : State) : (s.countDraw).pc = s.pc := rfl
@[simp] theorem State.countDraw_sp (s : State) : (s.countDraw).sp = s.sp := rfl
@[simp] theorem State.countDraw_flags (s : State) : (s.countDraw).flags = s.flags := rfl
@[simp] theorem State.countDraw_ctl (s : State) : (s.countDraw).ctl = s.ctl := rfl
@[simp] theorem State.countDraw_halted (s : State) : (s.countDraw).halted = s.halted := rfl
@[simp] theorem State.countDraw_fault (s : State) : (s.countDraw).fault = s.fault := rfl
@[simp] theorem State.countDraw_steps (s : State) : (s.countDraw).steps = s.steps := rfl
@[simp] theorem State.countDraw_mem (s : State) : (s.countDraw).mem = s.mem := rfl
@[simp] theorem State.countDraw_trace (s : State) : (s.countDraw).trace = s.trace := rfl
@[simp] theorem State.countDraw_params (s : State) : (s.countDraw).params = s.params := rfl
@[simp] theorem State.countDraw_draws (s : State) : (s.countDraw).draws = s.draws + 1 := rfl

@[simp] theorem State.raiseFault_regs (s : State) (r : FaultRecord) : (s.raiseFault r).regs = s.regs := rfl
@[simp] theorem State.raiseFault_pc (s : State) (r : FaultRecord) : (s.raiseFault r).pc = s.pc := rfl
@[simp] theorem State.raiseFault_sp (s : State) (r : FaultRecord) : (s.raiseFault r).sp = s.sp := rfl
@[simp] theorem State.raiseFault_flags (s : State) (r : FaultRecord) : (s.raiseFault r).flags = s.flags := rfl
@[simp] theorem State.raiseFault_ctl (s : State) (r : FaultRecord) : (s.raiseFault r).ctl = s.ctl := rfl
@[simp] theorem State.raiseFault_halted (s : State) (r : FaultRecord) : (s.raiseFault r).halted = s.halted := rfl
@[simp] theorem State.raiseFault_fault (s : State) (r : FaultRecord) : (s.raiseFault r).fault = some r := rfl
@[simp] theorem State.raiseFault_steps (s : State) (r : FaultRecord) : (s.raiseFault r).steps = s.steps := rfl
@[simp] theorem State.raiseFault_mem (s : State) (r : FaultRecord) : (s.raiseFault r).mem = s.mem := rfl
@[simp] theorem State.raiseFault_trace (s : State) (r : FaultRecord) : (s.raiseFault r).trace = s.trace := rfl
@[simp] theorem State.raiseFault_params (s : State) (r : FaultRecord) : (s.raiseFault r).params = s.params := rfl
@[simp] theorem State.raiseFault_draws (s : State) (r : FaultRecord) : (s.raiseFault r).draws = s.draws := rfl

@[simp] theorem State.retire_regs (s : State) : (s.retire).regs = s.regs := rfl
@[simp] theorem State.retire_pc (s : State) : (s.retire).pc = s.pc := rfl
@[simp] theorem State.retire_sp (s : State) : (s.retire).sp = s.sp := rfl
@[simp] theorem State.retire_flags (s : State) : (s.retire).flags = s.flags := rfl
@[simp] theorem State.retire_ctl (s : State) : (s.retire).ctl = s.ctl := rfl
@[simp] theorem State.retire_halted (s : State) : (s.retire).halted = s.halted := rfl
@[simp] theorem State.retire_fault (s : State) : (s.retire).fault = s.fault := rfl
@[simp] theorem State.retire_steps (s : State) : (s.retire).steps = s.steps + 1 := rfl
@[simp] theorem State.retire_mem (s : State) : (s.retire).mem = s.mem := rfl
@[simp] theorem State.retire_trace (s : State) : (s.retire).trace = s.trace := rfl
@[simp] theorem State.retire_params (s : State) : (s.retire).params = s.params := rfl
@[simp] theorem State.retire_draws (s : State) : (s.retire).draws = s.draws := rfl

@[simp] theorem State.write_regs (s : State) (a : Word) (v : Byte) : (s.write a v).regs = s.regs := rfl
@[simp] theorem State.write_pc (s : State) (a : Word) (v : Byte) : (s.write a v).pc = s.pc := rfl
@[simp] theorem State.write_sp (s : State) (a : Word) (v : Byte) : (s.write a v).sp = s.sp := rfl
@[simp] theorem State.write_flags (s : State) (a : Word) (v : Byte) : (s.write a v).flags = s.flags := rfl
@[simp] theorem State.write_ctl (s : State) (a : Word) (v : Byte) : (s.write a v).ctl = s.ctl := rfl
@[simp] theorem State.write_halted (s : State) (a : Word) (v : Byte) : (s.write a v).halted = s.halted := rfl
@[simp] theorem State.write_fault (s : State) (a : Word) (v : Byte) : (s.write a v).fault = s.fault := rfl
@[simp] theorem State.write_steps (s : State) (a : Word) (v : Byte) : (s.write a v).steps = s.steps := rfl
@[simp] theorem State.write_mem (s : State) (a : Word) (v : Byte) : (s.write a v).mem = s.mem.writeByte a.toNat v := rfl
@[simp] theorem State.write_trace (s : State) (a : Word) (v : Byte) : (s.write a v).trace = s.trace := rfl
@[simp] theorem State.write_params (s : State) (a : Word) (v : Byte) : (s.write a v).params = s.params := rfl
@[simp] theorem State.write_draws (s : State) (a : Word) (v : Byte) : (s.write a v).draws = s.draws := rfl


/-! Reading a cell depends on `mem` alone. -/

theorem State.read_congr (s t : State) (h : t.mem = s.mem) (a : Word) : t.read a = s.read a := by
  simp [State.read, h]

@[simp] theorem State.setPc_read (s : State) (w : Word) (x : Word) : (s.setPc w).read x = s.read x := rfl
@[simp] theorem State.setSp_read (s : State) (w : Word) (x : Word) : (s.setSp w).read x = s.read x := rfl
@[simp] theorem State.setRegs_read (s : State) (r : Regs) (x : Word) : (s.setRegs r).read x = s.read x := rfl
@[simp] theorem State.setFlags_read (s : State) (f : Flags) (x : Word) : (s.setFlags f).read x = s.read x := rfl
@[simp] theorem State.setCtl_read (s : State) (c : Ctl) (x : Word) : (s.setCtl c).read x = s.read x := rfl
@[simp] theorem State.signalHalt_read (s : State) (x : Word) : (s.signalHalt).read x = s.read x := rfl
@[simp] theorem State.logEvent_read (s : State) (ev : IoEvent) (x : Word) : (s.logEvent ev).read x = s.read x := rfl
@[simp] theorem State.countDraw_read (s : State) (x : Word) : (s.countDraw).read x = s.read x := rfl
@[simp] theorem State.raiseFault_read (s : State) (r : FaultRecord) (x : Word) : (s.raiseFault r).read x = s.read x := rfl
@[simp] theorem State.retire_read (s : State) (x : Word) : (s.retire).read x = s.read x := rfl

end Sys2Proof.Machine
end

