-- ==== Sys2Proof/Laws/Memory.lean ====
section
/-! SUPPORT. Memory: read after write (20_memory.md R72, R74), and every operation keeps the canonical form (entry 3). -/

namespace Sys2Proof.Machine

/-! ## Read after write -/

theorem Memory.readByte_erase (m : Memory) (a b : Nat) :
    (m.erase a).readByte b = if b = a then Memory.unlisted else m.readByte b := by
  induction m with
  | nil => simp [Memory.erase, Memory.readByte]
  | cons c rest ih =>
    obtain ⟨k, v⟩ := c
    simp only [Memory.erase]
    split
    · subst k
      rw [ih]
      by_cases h : b = a
      · simp [h]
      · simp [h, Memory.readByte, Ne.symm h]
    · simp only [Memory.readByte, ih]
      split
      · subst k; simp [*]
      · rfl

theorem Memory.readByte_insert (m : Memory) (a b : Nat) (v : Byte) :
    (m.insert a v).readByte b = if b = a then v else m.readByte b := by
  induction m with
  | nil => simp [Memory.insert, Memory.readByte, eq_comm]
  | cons c rest ih =>
    obtain ⟨k, w⟩ := c
    simp only [Memory.insert]
    split
    · simp only [Memory.readByte, ih]
      split
      · have : b ≠ a := by omega
        simp [this]
      · rfl
    · split
      · subst k
        by_cases h : b = a
        · simp [h, Memory.readByte]
        · simp [h, Memory.readByte, Ne.symm h]
      · by_cases h : b = a
        · simp [h, Memory.readByte]
        · simp [h, Memory.readByte, Ne.symm h]

theorem Memory.readByte_writeByte (m : Memory) (a b : Nat) (v : Byte) :
    (m.writeByte a v).readByte b = if b = a then v else m.readByte b := by
  simp only [Memory.writeByte]
  split
  · rw [Memory.readByte_erase, ‹v = _›]
  · exact Memory.readByte_insert m a b v

/-- What `MemWrite(addr, 1, v)` does to every read. -/
@[simp] theorem State.read_write (s : State) (a x : Word) (v : Byte) :
    (s.write a v).read x = if x = a then v else s.read x := by
  simp only [State.read, State.write_mem, Memory.readByte_writeByte, BitVec.toNat_inj]

/-- The two cells of a 16-bit access are distinct. -/
theorem add_one_ne (a : Word) : a + 1#16 ≠ a := by
  intro h
  have := congrArg BitVec.toNat h
  simp [BitVec.toNat_add] at this
  omega

/-- What `MemWrite(addr, 2, w)` does to every read. -/
theorem State.read_write16 (s : State) (a x w : Word) :
    (s.write16 a w).read x = if x = a then lo8 w else if x = a + 1#16 then hi8 w else s.read x := by
  simp only [State.write16, State.read_write]
  by_cases h : x = a
  · subst h; simp [(add_one_ne x).symm]
  · simp [h]

/-- A word read back. -/
theorem State.read16_write16 (s : State) (a w : Word) : (s.write16 a w).read16 a = w := by
  simp [State.read16, State.read_write16]

/-! ## The canonical form -/

theorem Memory.wfFrom_mono {lo lo' : Nat} {m : Memory} (h : Memory.wfFrom lo m = true) (hl : lo' ≤ lo) :
    Memory.wfFrom lo' m = true := by
  cases m with
  | nil => rfl
  | cons c rest =>
    obtain ⟨k, v⟩ := c
    simp only [Memory.wfFrom, Bool.and_eq_true, decide_eq_true_eq] at h ⊢
    exact ⟨⟨⟨by omega, h.1.1.2⟩, h.1.2⟩, h.2⟩

theorem Memory.wfFrom_erase {lo : Nat} {m : Memory} (h : Memory.wfFrom lo m = true) (a : Nat) :
    Memory.wfFrom lo (m.erase a) = true := by
  induction m generalizing lo with
  | nil => rfl
  | cons c rest ih =>
    obtain ⟨k, v⟩ := c
    simp only [Memory.wfFrom, Bool.and_eq_true, decide_eq_true_eq] at h
    simp only [Memory.erase]
    split
    · exact ih (Memory.wfFrom_mono h.2 (by omega))
    · simp only [Memory.wfFrom, Bool.and_eq_true, decide_eq_true_eq]
      exact ⟨h.1, ih h.2⟩

theorem Memory.wfFrom_insert {lo : Nat} {m : Memory} (h : Memory.wfFrom lo m = true) {a : Nat} {v : Byte}
    (hlo : lo ≤ a) (ha : a < 65536) (hv : v ≠ Memory.unlisted) : Memory.wfFrom lo (m.insert a v) = true := by
  induction m generalizing lo with
  | nil => simp [Memory.insert, Memory.wfFrom, hlo, ha, hv]
  | cons c rest ih =>
    obtain ⟨k, w⟩ := c
    simp only [Memory.wfFrom, Bool.and_eq_true, decide_eq_true_eq] at h
    simp only [Memory.insert]
    split
    · simp only [Memory.wfFrom, Bool.and_eq_true, decide_eq_true_eq]
      exact ⟨h.1, ih h.2 (by omega)⟩
    · split
      · subst k
        simp [Memory.wfFrom, hlo, ha, hv, h.2]
      · have hk : a + 1 ≤ k := by omega
        simp [Memory.wfFrom, hlo, ha, hv, hk, h.1.1.2, h.1.2, h.2]

theorem Memory.wf_writeByte {m : Memory} (h : m.wf = true) {a : Nat} (ha : a < 65536) (v : Byte) :
    (m.writeByte a v).wf = true := by
  simp only [Memory.writeByte]
  split
  · exact Memory.wfFrom_erase h a
  · exact Memory.wfFrom_insert h (Nat.zero_le _) ha ‹_›

theorem Memory.wf_writeBytes {m : Memory} (h : m.wf = true) (a : Word) (bs : List Byte) :
    (m.writeBytes a bs).wf = true := by
  induction bs generalizing m a with
  | nil => exact h
  | cons b bs ih => exact ih (Memory.wf_writeByte h a.isLt b) _

theorem State.wf_write {s : State} (h : s.mem.wf = true) (a : Word) (v : Byte) : (s.write a v).mem.wf = true :=
  Memory.wf_writeByte h a.isLt v

theorem State.wf_write16 {s : State} (h : s.mem.wf = true) (a w : Word) : (s.write16 a w).mem.wf = true :=
  State.wf_write (State.wf_write h _ _) _ _

theorem State.reset_mem_wf : State.reset.mem.wf = true := rfl

end Sys2Proof.Machine
end

