-- ==== Sys2Proof/Laws/Operands.lean ====
section
/-! SUPPORT. Operand access and the stack: what each shared operation reads and writes (40_execution_cycle.md R150 to R152,
44_branch.md R270, R271). -/

namespace Sys2Proof.Machine

/-! ## 16-bit writes and the stack change no other field -/

@[simp] theorem State.write16_regs (s : State) (a w : Word) : (s.write16 a w).regs = s.regs := rfl
@[simp] theorem State.write16_pc (s : State) (a w : Word) : (s.write16 a w).pc = s.pc := rfl
@[simp] theorem State.write16_sp (s : State) (a w : Word) : (s.write16 a w).sp = s.sp := rfl
@[simp] theorem State.write16_flags (s : State) (a w : Word) : (s.write16 a w).flags = s.flags := rfl
@[simp] theorem State.write16_ctl (s : State) (a w : Word) : (s.write16 a w).ctl = s.ctl := rfl
@[simp] theorem State.write16_halted (s : State) (a w : Word) : (s.write16 a w).halted = s.halted := rfl
@[simp] theorem State.write16_fault (s : State) (a w : Word) : (s.write16 a w).fault = s.fault := rfl
@[simp] theorem State.write16_steps (s : State) (a w : Word) : (s.write16 a w).steps = s.steps := rfl
@[simp] theorem State.write16_trace (s : State) (a w : Word) : (s.write16 a w).trace = s.trace := rfl
@[simp] theorem State.write16_params (s : State) (a w : Word) : (s.write16 a w).params = s.params := rfl
@[simp] theorem State.write16_draws (s : State) (a w : Word) : (s.write16 a w).draws = s.draws := rfl

@[simp] theorem State.push16_regs (s : State) (w : Word) : (s.push16 w).regs = s.regs := rfl
@[simp] theorem State.push16_pc (s : State) (w : Word) : (s.push16 w).pc = s.pc := rfl
@[simp] theorem State.push16_sp (s : State) (w : Word) : (s.push16 w).sp = s.sp - 2#16 := rfl
@[simp] theorem State.push16_flags (s : State) (w : Word) : (s.push16 w).flags = s.flags := rfl
@[simp] theorem State.push16_ctl (s : State) (w : Word) : (s.push16 w).ctl = s.ctl := rfl
@[simp] theorem State.push16_halted (s : State) (w : Word) : (s.push16 w).halted = s.halted := rfl
@[simp] theorem State.push16_fault (s : State) (w : Word) : (s.push16 w).fault = s.fault := rfl
@[simp] theorem State.push16_steps (s : State) (w : Word) : (s.push16 w).steps = s.steps := rfl
@[simp] theorem State.push16_trace (s : State) (w : Word) : (s.push16 w).trace = s.trace := rfl
@[simp] theorem State.push16_params (s : State) (w : Word) : (s.push16 w).params = s.params := rfl
@[simp] theorem State.push16_draws (s : State) (w : Word) : (s.push16 w).draws = s.draws := rfl

@[simp] theorem State.popSp_regs (s : State) : s.popSp.regs = s.regs := rfl
@[simp] theorem State.popSp_pc (s : State) : s.popSp.pc = s.pc := rfl
@[simp] theorem State.popSp_sp (s : State) : s.popSp.sp = s.sp + 2#16 := rfl
@[simp] theorem State.popSp_flags (s : State) : s.popSp.flags = s.flags := rfl
@[simp] theorem State.popSp_ctl (s : State) : s.popSp.ctl = s.ctl := rfl
@[simp] theorem State.popSp_halted (s : State) : s.popSp.halted = s.halted := rfl
@[simp] theorem State.popSp_fault (s : State) : s.popSp.fault = s.fault := rfl
@[simp] theorem State.popSp_steps (s : State) : s.popSp.steps = s.steps := rfl
@[simp] theorem State.popSp_mem (s : State) : s.popSp.mem = s.mem := rfl
@[simp] theorem State.popSp_trace (s : State) : s.popSp.trace = s.trace := rfl
@[simp] theorem State.popSp_params (s : State) : s.popSp.params = s.params := rfl
@[simp] theorem State.popSp_draws (s : State) : s.popSp.draws = s.draws := rfl

@[simp] theorem State.popSp_read (s : State) (x : Word) : s.popSp.read x = s.read x := rfl

/-- What `push16(w)` leaves in memory. -/
theorem State.read_push16 (s : State) (w x : Word) :
    (s.push16 w).read x =
      if x = s.sp - 2#16 then lo8 w else if x = s.sp - 2#16 + 1#16 then hi8 w else s.read x := by
  simp [State.push16, State.read_write16]

/-- `pop16` after `push16(w)` returns w (R271). -/
theorem State.popWord_push16 (s : State) (w : Word) : (s.push16 w).popWord = w := by
  simp [State.popWord, State.push16, State.read16_write16]

/-- `pop16` after `push16(w)` restores SP (R271). -/
theorem State.popSp_push16_sp (s : State) (w : Word) : (s.push16 w).popSp.sp = s.sp := by
  simp

/-! ## Registers -/

@[simp] theorem State.regWrite_pc (s : State) (r : Reg8) (v : Byte) : (s.regWrite r v).pc = s.pc := by cases r <;> rfl
@[simp] theorem State.regWrite_sp (s : State) (r : Reg8) (v : Byte) : (s.regWrite r v).sp = s.sp := by cases r <;> rfl
@[simp] theorem State.regWrite_flags (s : State) (r : Reg8) (v : Byte) : (s.regWrite r v).flags = s.flags := by cases r <;> rfl
@[simp] theorem State.regWrite_ctl (s : State) (r : Reg8) (v : Byte) : (s.regWrite r v).ctl = s.ctl := by cases r <;> rfl
@[simp] theorem State.regWrite_halted (s : State) (r : Reg8) (v : Byte) : (s.regWrite r v).halted = s.halted := by cases r <;> rfl
@[simp] theorem State.regWrite_fault (s : State) (r : Reg8) (v : Byte) : (s.regWrite r v).fault = s.fault := by cases r <;> rfl
@[simp] theorem State.regWrite_steps (s : State) (r : Reg8) (v : Byte) : (s.regWrite r v).steps = s.steps := by cases r <;> rfl
@[simp] theorem State.regWrite_trace (s : State) (r : Reg8) (v : Byte) : (s.regWrite r v).trace = s.trace := by cases r <;> rfl
@[simp] theorem State.regWrite_params (s : State) (r : Reg8) (v : Byte) : (s.regWrite r v).params = s.params := by cases r <;> rfl
@[simp] theorem State.regWrite_draws (s : State) (r : Reg8) (v : Byte) : (s.regWrite r v).draws = s.draws := by cases r <;> rfl

/-- A write to a register leaves memory alone. -/
theorem State.regWrite_mem (s : State) {r : Reg8} (h : r ≠ .m) (v : Byte) : (s.regWrite r v).mem = s.mem := by
  cases r <;> first | rfl | exact absurd rfl h

/-- A write to M leaves the registers alone. -/
@[simp] theorem State.regWrite_m_regs (s : State) (v : Byte) : (s.regWrite .m v).regs = s.regs := rfl

@[simp] theorem State.regWrite_a_regs (s : State) (v : Byte) : (s.regWrite .a v).regs = { s.regs with a := v } := rfl

@[simp] theorem State.regWrite_a_mem (s : State) (v : Byte) : (s.regWrite .a v).mem = s.mem := rfl

/-- What a write to a register leaves in every register. -/
theorem State.regRead_regWrite (s : State) {r x : Reg8} (hr : r ≠ .m) (hx : x ≠ .m) (v : Byte) :
    (s.regWrite r v).regRead x = if x = r then v else s.regRead x := by
  cases r <;> first | exact absurd rfl hr | (cases x <;> first | exact absurd rfl hx | rfl)

/-- The canonical form survives a write to a register or to M. -/
theorem State.wf_regWrite {s : State} (h : s.mem.wf = true) (r : Reg8) (v : Byte) : (s.regWrite r v).mem.wf = true := by
  cases r <;> first | exact h | exact State.wf_write h _ _

/-! ## Pairs -/

@[simp] theorem State.pairWrite_pc (s : State) (p : RegPair) (w : Word) : (s.pairWrite p w).pc = s.pc := by cases p <;> rfl
@[simp] theorem State.pairWrite_flags (s : State) (p : RegPair) (w : Word) : (s.pairWrite p w).flags = s.flags := by cases p <;> rfl
@[simp] theorem State.pairWrite_ctl (s : State) (p : RegPair) (w : Word) : (s.pairWrite p w).ctl = s.ctl := by cases p <;> rfl
@[simp] theorem State.pairWrite_halted (s : State) (p : RegPair) (w : Word) : (s.pairWrite p w).halted = s.halted := by cases p <;> rfl
@[simp] theorem State.pairWrite_fault (s : State) (p : RegPair) (w : Word) : (s.pairWrite p w).fault = s.fault := by cases p <;> rfl
@[simp] theorem State.pairWrite_steps (s : State) (p : RegPair) (w : Word) : (s.pairWrite p w).steps = s.steps := by cases p <;> rfl
@[simp] theorem State.pairWrite_mem (s : State) (p : RegPair) (w : Word) : (s.pairWrite p w).mem = s.mem := by cases p <;> rfl
@[simp] theorem State.pairWrite_trace (s : State) (p : RegPair) (w : Word) : (s.pairWrite p w).trace = s.trace := by cases p <;> rfl
@[simp] theorem State.pairWrite_params (s : State) (p : RegPair) (w : Word) : (s.pairWrite p w).params = s.params := by cases p <;> rfl
@[simp] theorem State.pairWrite_draws (s : State) (p : RegPair) (w : Word) : (s.pairWrite p w).draws = s.draws := by cases p <;> rfl

@[simp] theorem State.pairWrite_read (s : State) (p : RegPair) (w x : Word) : (s.pairWrite p w).read x = s.read x := by
  cases p <;> rfl

/-- A write to a pair never changes A (R35). -/
@[simp] theorem State.pairWrite_regs_a (s : State) (p : RegPair) (w : Word) : (s.pairWrite p w).regs.a = s.regs.a := by
  cases p <;> rfl

/-- What a write to a pair leaves in every pair (R152). -/
theorem State.pairRead_pairWrite (s : State) (p q : RegPair) (w : Word) :
    (s.pairWrite p w).pairRead q = if q = p then w else s.pairRead q := by
  cases p <;> cases q <;>
    simp [State.pairWrite, State.pairRead, State.bc, State.de, State.hl, State.setRegs, State.setSp]

end Sys2Proof.Machine
end

