-- ==== Sys2Proof/Laws/Exec.lean ====
section
/-! SUPPORT. What every instruction does, said once by its form: `exec` answers the next state `formEffect i.form s`. A proof about all
instructions of a form, or about all instructions, rewrites with `exec_eq` and splits on the form. -/

namespace Sys2Proof.Machine

/-- The effect of an accumulator ALU operation with operand `x`. -/
def aluEffect (op : AluOp) (x : Byte) (s : State) : State :=
  match op with
  | .add => s.addA x
  | .adc => s.adcA x
  | .sub => s.subA x
  | .sbb => s.sbbA x
  | .ana => s.andA x
  | .xra => s.xorA x
  | .ora => s.orA x
  | .cmp => s.compareA x

/-- The effect of a form. -/
def formEffect (f : Form) (s : State) : State :=
  match f with
  | .mov dst src => s.moveReg dst src
  | .mvi dst d8 => s.regWrite dst d8
  | .lxi rp d16 => s.pairWrite rp d16
  | .lda a16 => s.loadA a16
  | .sta a16 => s.storeA a16
  | .lhld a16 => s.loadHL a16
  | .shld a16 => s.storeHL a16
  | .ldax rp => s.loadA (s.pairRead rp)
  | .stax rp => s.storeA (s.pairRead rp)
  | .xchg => s.exchangeDeHl
  | .alu op src => aluEffect op (s.regRead src) s
  | .aluImm op d8 => aluEffect op d8 s
  | .inr r => s.incReg r
  | .dcr r => s.decReg r
  | .inx rp => s.incPair rp
  | .dcx rp => s.decPair rp
  | .dad rp => s.addToHl rp
  | .daa => s.decimalAdjust
  | .rlc => s.rotateA (rotLeft s.regs.a)
  | .rrc => s.rotateA (rotRight s.regs.a)
  | .ral => s.rotateA (rotLeftCy s.regs.a s.flags.cy)
  | .rar => s.rotateA (rotRightCy s.regs.a s.flags.cy)
  | .cma => s.regWrite .a (BitVec.ofNat 8 (255 - s.regs.a.toNat))
  | .cmc => s.setFlags (setCy (!s.flags.cy) s.flags)
  | .stc => s.setFlags (setCy true s.flags)
  | .jmp a16 => s.setPc a16
  | .jcond cond a16 => s.jumpIf cond a16
  | .call a16 => s.callTo a16
  | .ccond cond a16 => s.callIf cond a16
  | .ret => s.returnFrom
  | .rcond cond => s.returnIf cond
  | .rst n => s.restart n
  | .pchl => s.setPc s.hl
  | .push .bc => s.push16 s.bc
  | .push .de => s.push16 s.de
  | .push .hl => s.push16 s.hl
  | .push .psw => (s.pushPswWith (Config.pswFill s.draws)).countDraw
  | .pop .bc => s.popPair .bc
  | .pop .de => s.popPair .de
  | .pop .hl => s.popPair .hl
  | .pop .psw => s.popPswWord
  | .xthl => s.exchangeTopHl
  | .sphl => s.setSp s.hl
  | .input port => (s.inputByte port (Config.ioRead s.draws port)).countDraw
  | .output port => s.outputByte port
  | .ei => s.setCtl { s.ctl with inte := true }
  | .di => s.setCtl { s.ctl with inte := false }
  | .rim => (s.regWrite .a (rimByte (Config.sidRead s.draws) s.ctl)).countDraw
  | .sim => s.setCtl (simCtl s.regs.a s.ctl)
  | .hlt => s.signalHalt
  | .nop => s

/-- Every instruction completes, with the effect of its form. -/
theorem exec_eq (i : Instr) (s : State) : exec i s = .next (formEffect i.form s) := by
  cases i <;> rfl

/-- Every instruction's form exists (R113, R121). -/
theorem form_wellFormed (i : Instr) : i.form.wellFormed = true := by
  cases i <;> rfl

/-- An instruction's words are its form's. -/
theorem encode_of_form {i : Instr} {f : Form} (h : i.form = f) : encode i = encodeForm f := by rw [encode, h]

/-- Every instruction of a form completes, with the effect of the form. -/
theorem exec_of_form {i : Instr} {f : Form} (h : i.form = f) (s : State) : exec i s = .next (formEffect f s) := by
  rw [exec_eq, h]

/-- No instruction raises a fault record (R309). -/
@[simp] theorem formEffect_fault (f : Form) (s : State) : (formEffect f s).fault = s.fault := by
  cases f
  all_goals simp only [formEffect, State.jumpIf, State.callIf, State.returnIf]
  case alu op _ => cases op <;> rfl
  case aluImm op _ => cases op <;> rfl
  case mov dst _ => exact State.regWrite_fault _ _ _
  case mvi dst _ => exact State.regWrite_fault _ _ _
  case lxi rp _ => exact State.pairWrite_fault _ _ _
  case inr dst => exact State.regWrite_fault _ _ _
  case dcr dst => exact State.regWrite_fault _ _ _
  case inx rp => exact State.pairWrite_fault _ _ _
  case dcx rp => exact State.pairWrite_fault _ _ _
  case push rp => cases rp <;> rfl
  case pop rp => cases rp <;> rfl
  all_goals first | rfl | (split <;> rfl)

/-- The instruction itself does not count its step. -/
@[simp] theorem formEffect_steps (f : Form) (s : State) : (formEffect f s).steps = s.steps := by
  cases f
  all_goals simp only [formEffect, State.jumpIf, State.callIf, State.returnIf]
  case alu op _ => cases op <;> rfl
  case aluImm op _ => cases op <;> rfl
  case mov dst _ => exact State.regWrite_steps _ _ _
  case mvi dst _ => exact State.regWrite_steps _ _ _
  case lxi rp _ => exact State.pairWrite_steps _ _ _
  case inr dst => exact State.regWrite_steps _ _ _
  case dcr dst => exact State.regWrite_steps _ _ _
  case inx rp => exact State.pairWrite_steps _ _ _
  case dcx rp => exact State.pairWrite_steps _ _ _
  case push rp => cases rp <;> rfl
  case pop rp => cases rp <;> rfl
  all_goals first | rfl | (split <;> rfl)

/-- No instruction changes the parameters (R9, entry 5). -/
@[simp] theorem formEffect_params (f : Form) (s : State) : (formEffect f s).params = s.params := by
  cases f
  all_goals simp only [formEffect, State.jumpIf, State.callIf, State.returnIf]
  case alu op _ => cases op <;> rfl
  case aluImm op _ => cases op <;> rfl
  case mov dst _ => exact State.regWrite_params _ _ _
  case mvi dst _ => exact State.regWrite_params _ _ _
  case lxi rp _ => exact State.pairWrite_params _ _ _
  case inr dst => exact State.regWrite_params _ _ _
  case dcr dst => exact State.regWrite_params _ _ _
  case inx rp => exact State.pairWrite_params _ _ _
  case dcx rp => exact State.pairWrite_params _ _ _
  case push rp => cases rp <;> rfl
  case pop rp => cases rp <;> rfl
  all_goals first | rfl | (split <;> rfl)

/-- The canonical form of memory survives every instruction (entry 3). -/
theorem wf_formEffect {s : State} (f : Form) (h : s.mem.wf = true) : (formEffect f s).mem.wf = true := by
  cases f
  all_goals simp only [formEffect, State.jumpIf, State.callIf, State.returnIf]
  case alu op _ => cases op <;> exact h
  case aluImm op _ => cases op <;> exact h
  case mov dst _ => exact State.wf_regWrite h _ _
  case mvi dst _ => exact State.wf_regWrite h _ _
  case lxi rp _ => exact (State.pairWrite_mem s _ _).symm ▸ h
  case inr dst => exact State.wf_regWrite h _ _
  case dcr dst => exact State.wf_regWrite h _ _
  case inx rp => exact (State.pairWrite_mem s _ _).symm ▸ h
  case dcx rp => exact (State.pairWrite_mem s _ _).symm ▸ h
  case sta a16 => exact State.wf_write h _ _
  case stax rp => exact State.wf_write h _ _
  case shld a16 => exact State.wf_write (State.wf_write h _ _) _ _
  case xthl => exact State.wf_write16 h _ _
  case rst n => exact State.wf_write16 (s := s.setSp _) h _ _
  case call a16 => exact State.wf_write16 (s := s.setSp _) h _ _
  case push rp => cases rp <;> exact State.wf_write16 (s := s.setSp _) h _ _
  case pop rp => cases rp <;> exact h
  case ccond cond a16 =>
    split
    · exact State.wf_write16 (s := s.setSp _) h _ _
    · exact h
  all_goals first | exact h | (split <;> exact h)

/-- Every case of a step, said once (40_execution_cycle.md R140, 60_exceptions.md R308). -/
theorem step_cases (s : State) :
    (∃ r, s.fault = some r ∧ step s = .fault (.faulted r)) ∨
    (s.fault = none ∧ s.halted = true ∧ step s = .fault .halted) ∨
    (s.fault = none ∧ s.halted = false ∧ s.limitReached = true ∧ step s = .next s.raiseStepLimit) ∨
    (s.fault = none ∧ s.halted = false ∧ s.limitReached = false ∧ s.fetch = none ∧ step s = .next s.raiseIllegalOpcode) ∨
    (∃ i, s.fault = none ∧ s.halted = false ∧ s.limitReached = false ∧ s.fetch = some i ∧
      step s = .next (formEffect i.form (s.advance i)).retire) := by
  unfold step State.noStep
  cases hf : s.fault with
  | some r => exact .inl ⟨r, rfl, rfl⟩
  | none =>
    cases hh : s.halted with
    | true => exact .inr (.inl ⟨rfl, rfl, rfl⟩)
    | false =>
      cases hl : s.limitReached with
      | true => exact .inr (.inr (.inl ⟨rfl, rfl, rfl, by simp⟩))
      | false =>
        cases hi : s.fetch with
        | none => exact .inr (.inr (.inr (.inl ⟨rfl, rfl, rfl, rfl, by simp⟩)))
        | some i => exact .inr (.inr (.inr (.inr ⟨i, rfl, rfl, rfl, rfl, by simp [exec_eq, finishInstr]⟩)))

/-- A running state with an instruction at PC executes it (R140). -/
theorem step_of_running {s : State} {i : Instr} (h : s.Running) (hi : s.fetch = some i) :
    step s = .next (formEffect i.form (s.advance i)).retire := by
  obtain ⟨h1, h2, h3⟩ := h
  unfold step State.noStep
  rw [h1, h2, h3, hi]
  exact congrArg finishInstr (exec_eq i _)

/-- A running state with no entry at PC raises IllegalOpcode (R301). -/
theorem step_of_illegal {s : State} (h : s.Running) (hi : s.fetch = none) : step s = .next s.raiseIllegalOpcode := by
  obtain ⟨h1, h2, h3⟩ := h
  unfold step State.noStep
  rw [h1, h2, h3, hi]
  rfl

/-- A state at its limit raises StepLimitExceeded (R143). -/
theorem step_of_limit {s : State} (h1 : s.fault = none) (h2 : s.halted = false) (h3 : s.limitReached = true) :
    step s = .next s.raiseStepLimit := by
  unfold step State.noStep
  rw [h1, h2, h3]
  rfl

end Sys2Proof.Machine
end

