-- ==== Sys2Proof/Laws/Decode.lean ====
section
/-! SUPPORT. The opcode map read cell by cell (30_encoding.md R110, R112): what each entry's instruction encodes to, and which instruction
has a given form. -/

namespace Sys2Proof

/-- What the cell of `op` is: an illegal byte, or an entry whose instructions encode to `op` and the operand bytes. -/
def EntrySpec (op : Byte) : Entry → Prop
  | .illegal => op ∈ illegalOpcodes
  | .f1 i => encode i = [op] ∧ i.length = 1 ∧ op ∉ illegalOpcodes
  | .f2 make => ∀ b, encode (make b) = [op, b] ∧ (make b).length = 2 ∧ op ∉ illegalOpcodes
  | .f3 make => ∀ w, encode (make w) = [op, lo8 w, hi8 w] ∧ (make w).length = 3 ∧ op ∉ illegalOpcodes

/-- Every cell of the opcode map. -/
theorem decodeEntry_spec (op : Byte) : EntrySpec op (decodeEntry op) := by
  have key : ∀ n, n < 256 → EntrySpec (BitVec.ofNat 8 n) (decodeEntry (BitVec.ofNat 8 n)) := by
    intro n hn
    interval_cases n
    all_goals first
      | exact ⟨rfl, rfl, by decide⟩
      | exact fun b => ⟨rfl, rfl, by decide⟩
      | (show _ ∈ illegalOpcodes; decide)
  have := key op.toNat op.isLt
  rwa [BitVec.ofNat_toNat, BitVec.setWidth_eq] at this

/-- The entry of an opcode byte has the length of its instruction (R145). -/
theorem length_of_fill {op b1 b2 : Byte} {i : Instr} (h : (decodeEntry op).fill b1 b2 = some i) :
    (decodeEntry op).length = i.length := by
  have key := decodeEntry_spec op
  generalize decodeEntry op = e at *
  cases e <;> simp_all [Entry.fill, Entry.length, EntrySpec] <;> subst h <;> simp_all

/-- A fetch finds no instruction exactly on the ten illegal bytes (R112). -/
theorem Machine.fetch_eq_none_iff {s : Machine.State} : s.fetch = none ↔ s.read s.pc ∈ illegalOpcodes := by
  have key := decodeEntry_spec (s.read s.pc)
  unfold Machine.State.fetch
  generalize decodeEntry (s.read s.pc) = e at *
  rcases e with _ | i | make | make
  · simpa [Entry.fill, EntrySpec] using key
  · simp only [EntrySpec, Entry.fill] at *; simp [key.2.2]
  · simp only [EntrySpec, Entry.fill] at *; simp [(key 0).2.2]
  · simp only [EntrySpec, Entry.fill] at *; simp [(key 0).2.2]

/-- Every form that exists is the form of an instruction. -/
theorem Form.exists_instr (f : Form) (hw : f.wellFormed = true) : ∃ i : Instr, i.form = f := by
  match f, hw with
  | .mov .b .b, _ => exact ⟨.movBB, rfl⟩
  | .mov .b .c, _ => exact ⟨.movBC, rfl⟩
  | .mov .b .d, _ => exact ⟨.movBD, rfl⟩
  | .mov .b .e, _ => exact ⟨.movBE, rfl⟩
  | .mov .b .h, _ => exact ⟨.movBH, rfl⟩
  | .mov .b .l, _ => exact ⟨.movBL, rfl⟩
  | .mov .b .a, _ => exact ⟨.movBA, rfl⟩
  | .mov .c .b, _ => exact ⟨.movCB, rfl⟩
  | .mov .c .c, _ => exact ⟨.movCC, rfl⟩
  | .mov .c .d, _ => exact ⟨.movCD, rfl⟩
  | .mov .c .e, _ => exact ⟨.movCE, rfl⟩
  | .mov .c .h, _ => exact ⟨.movCH, rfl⟩
  | .mov .c .l, _ => exact ⟨.movCL, rfl⟩
  | .mov .c .a, _ => exact ⟨.movCA, rfl⟩
  | .mov .d .b, _ => exact ⟨.movDB, rfl⟩
  | .mov .d .c, _ => exact ⟨.movDC, rfl⟩
  | .mov .d .d, _ => exact ⟨.movDD, rfl⟩
  | .mov .d .e, _ => exact ⟨.movDE, rfl⟩
  | .mov .d .h, _ => exact ⟨.movDH, rfl⟩
  | .mov .d .l, _ => exact ⟨.movDL, rfl⟩
  | .mov .d .a, _ => exact ⟨.movDA, rfl⟩
  | .mov .e .b, _ => exact ⟨.movEB, rfl⟩
  | .mov .e .c, _ => exact ⟨.movEC, rfl⟩
  | .mov .e .d, _ => exact ⟨.movED, rfl⟩
  | .mov .e .e, _ => exact ⟨.movEE, rfl⟩
  | .mov .e .h, _ => exact ⟨.movEH, rfl⟩
  | .mov .e .l, _ => exact ⟨.movEL, rfl⟩
  | .mov .e .a, _ => exact ⟨.movEA, rfl⟩
  | .mov .h .b, _ => exact ⟨.movHB, rfl⟩
  | .mov .h .c, _ => exact ⟨.movHC, rfl⟩
  | .mov .h .d, _ => exact ⟨.movHD, rfl⟩
  | .mov .h .e, _ => exact ⟨.movHE, rfl⟩
  | .mov .h .h, _ => exact ⟨.movHH, rfl⟩
  | .mov .h .l, _ => exact ⟨.movHL, rfl⟩
  | .mov .h .a, _ => exact ⟨.movHA, rfl⟩
  | .mov .l .b, _ => exact ⟨.movLB, rfl⟩
  | .mov .l .c, _ => exact ⟨.movLC, rfl⟩
  | .mov .l .d, _ => exact ⟨.movLD, rfl⟩
  | .mov .l .e, _ => exact ⟨.movLE, rfl⟩
  | .mov .l .h, _ => exact ⟨.movLH, rfl⟩
  | .mov .l .l, _ => exact ⟨.movLL, rfl⟩
  | .mov .l .a, _ => exact ⟨.movLA, rfl⟩
  | .mov .a .b, _ => exact ⟨.movAB, rfl⟩
  | .mov .a .c, _ => exact ⟨.movAC, rfl⟩
  | .mov .a .d, _ => exact ⟨.movAD, rfl⟩
  | .mov .a .e, _ => exact ⟨.movAE, rfl⟩
  | .mov .a .h, _ => exact ⟨.movAH, rfl⟩
  | .mov .a .l, _ => exact ⟨.movAL, rfl⟩
  | .mov .a .a, _ => exact ⟨.movAA, rfl⟩
  | .mov .b .m, _ => exact ⟨.movBM, rfl⟩
  | .mov .c .m, _ => exact ⟨.movCM, rfl⟩
  | .mov .d .m, _ => exact ⟨.movDM, rfl⟩
  | .mov .e .m, _ => exact ⟨.movEM, rfl⟩
  | .mov .h .m, _ => exact ⟨.movHM, rfl⟩
  | .mov .l .m, _ => exact ⟨.movLM, rfl⟩
  | .mov .a .m, _ => exact ⟨.movAM, rfl⟩
  | .mov .m .b, _ => exact ⟨.movMB, rfl⟩
  | .mov .m .c, _ => exact ⟨.movMC, rfl⟩
  | .mov .m .d, _ => exact ⟨.movMD, rfl⟩
  | .mov .m .e, _ => exact ⟨.movME, rfl⟩
  | .mov .m .h, _ => exact ⟨.movMH, rfl⟩
  | .mov .m .l, _ => exact ⟨.movML, rfl⟩
  | .mov .m .a, _ => exact ⟨.movMA, rfl⟩
  | .mvi .b v, _ => exact ⟨.mviB v, rfl⟩
  | .mvi .c v, _ => exact ⟨.mviC v, rfl⟩
  | .mvi .d v, _ => exact ⟨.mviD v, rfl⟩
  | .mvi .e v, _ => exact ⟨.mviE v, rfl⟩
  | .mvi .h v, _ => exact ⟨.mviH v, rfl⟩
  | .mvi .l v, _ => exact ⟨.mviL v, rfl⟩
  | .mvi .a v, _ => exact ⟨.mviA v, rfl⟩
  | .mvi .m v, _ => exact ⟨.mviM v, rfl⟩
  | .lxi .bc w, _ => exact ⟨.lxiB w, rfl⟩
  | .lxi .de w, _ => exact ⟨.lxiD w, rfl⟩
  | .lxi .hl w, _ => exact ⟨.lxiH w, rfl⟩
  | .lxi .sp w, _ => exact ⟨.lxiSp w, rfl⟩
  | .lda w, _ => exact ⟨.lda w, rfl⟩
  | .sta w, _ => exact ⟨.sta w, rfl⟩
  | .lhld w, _ => exact ⟨.lhld w, rfl⟩
  | .shld w, _ => exact ⟨.shld w, rfl⟩
  | .ldax .bc, _ => exact ⟨.ldaxB, rfl⟩
  | .ldax .de, _ => exact ⟨.ldaxD, rfl⟩
  | .stax .bc, _ => exact ⟨.staxB, rfl⟩
  | .stax .de, _ => exact ⟨.staxD, rfl⟩
  | .xchg, _ => exact ⟨.xchg, rfl⟩
  | .alu .add .b, _ => exact ⟨.addB, rfl⟩
  | .alu .add .c, _ => exact ⟨.addC, rfl⟩
  | .alu .add .d, _ => exact ⟨.addD, rfl⟩
  | .alu .add .e, _ => exact ⟨.addE, rfl⟩
  | .alu .add .h, _ => exact ⟨.addH, rfl⟩
  | .alu .add .l, _ => exact ⟨.addL, rfl⟩
  | .alu .add .a, _ => exact ⟨.addA, rfl⟩
  | .alu .add .m, _ => exact ⟨.addM, rfl⟩
  | .aluImm .add v, _ => exact ⟨.adi v, rfl⟩
  | .alu .adc .b, _ => exact ⟨.adcB, rfl⟩
  | .alu .adc .c, _ => exact ⟨.adcC, rfl⟩
  | .alu .adc .d, _ => exact ⟨.adcD, rfl⟩
  | .alu .adc .e, _ => exact ⟨.adcE, rfl⟩
  | .alu .adc .h, _ => exact ⟨.adcH, rfl⟩
  | .alu .adc .l, _ => exact ⟨.adcL, rfl⟩
  | .alu .adc .a, _ => exact ⟨.adcA, rfl⟩
  | .alu .adc .m, _ => exact ⟨.adcM, rfl⟩
  | .aluImm .adc v, _ => exact ⟨.aci v, rfl⟩
  | .alu .sub .b, _ => exact ⟨.subB, rfl⟩
  | .alu .sub .c, _ => exact ⟨.subC, rfl⟩
  | .alu .sub .d, _ => exact ⟨.subD, rfl⟩
  | .alu .sub .e, _ => exact ⟨.subE, rfl⟩
  | .alu .sub .h, _ => exact ⟨.subH, rfl⟩
  | .alu .sub .l, _ => exact ⟨.subL, rfl⟩
  | .alu .sub .a, _ => exact ⟨.subA, rfl⟩
  | .alu .sub .m, _ => exact ⟨.subM, rfl⟩
  | .aluImm .sub v, _ => exact ⟨.sui v, rfl⟩
  | .alu .sbb .b, _ => exact ⟨.sbbB, rfl⟩
  | .alu .sbb .c, _ => exact ⟨.sbbC, rfl⟩
  | .alu .sbb .d, _ => exact ⟨.sbbD, rfl⟩
  | .alu .sbb .e, _ => exact ⟨.sbbE, rfl⟩
  | .alu .sbb .h, _ => exact ⟨.sbbH, rfl⟩
  | .alu .sbb .l, _ => exact ⟨.sbbL, rfl⟩
  | .alu .sbb .a, _ => exact ⟨.sbbA, rfl⟩
  | .alu .sbb .m, _ => exact ⟨.sbbM, rfl⟩
  | .aluImm .sbb v, _ => exact ⟨.sbi v, rfl⟩
  | .inr .b, _ => exact ⟨.inrB, rfl⟩
  | .inr .c, _ => exact ⟨.inrC, rfl⟩
  | .inr .d, _ => exact ⟨.inrD, rfl⟩
  | .inr .e, _ => exact ⟨.inrE, rfl⟩
  | .inr .h, _ => exact ⟨.inrH, rfl⟩
  | .inr .l, _ => exact ⟨.inrL, rfl⟩
  | .inr .a, _ => exact ⟨.inrA, rfl⟩
  | .inr .m, _ => exact ⟨.inrM, rfl⟩
  | .dcr .b, _ => exact ⟨.dcrB, rfl⟩
  | .dcr .c, _ => exact ⟨.dcrC, rfl⟩
  | .dcr .d, _ => exact ⟨.dcrD, rfl⟩
  | .dcr .e, _ => exact ⟨.dcrE, rfl⟩
  | .dcr .h, _ => exact ⟨.dcrH, rfl⟩
  | .dcr .l, _ => exact ⟨.dcrL, rfl⟩
  | .dcr .a, _ => exact ⟨.dcrA, rfl⟩
  | .dcr .m, _ => exact ⟨.dcrM, rfl⟩
  | .inx .bc, _ => exact ⟨.inxB, rfl⟩
  | .inx .de, _ => exact ⟨.inxD, rfl⟩
  | .inx .hl, _ => exact ⟨.inxH, rfl⟩
  | .inx .sp, _ => exact ⟨.inxSp, rfl⟩
  | .dcx .bc, _ => exact ⟨.dcxB, rfl⟩
  | .dcx .de, _ => exact ⟨.dcxD, rfl⟩
  | .dcx .hl, _ => exact ⟨.dcxH, rfl⟩
  | .dcx .sp, _ => exact ⟨.dcxSp, rfl⟩
  | .dad .bc, _ => exact ⟨.dadB, rfl⟩
  | .dad .de, _ => exact ⟨.dadD, rfl⟩
  | .dad .hl, _ => exact ⟨.dadH, rfl⟩
  | .dad .sp, _ => exact ⟨.dadSp, rfl⟩
  | .daa, _ => exact ⟨.daa, rfl⟩
  | .alu .ana .b, _ => exact ⟨.anaB, rfl⟩
  | .alu .ana .c, _ => exact ⟨.anaC, rfl⟩
  | .alu .ana .d, _ => exact ⟨.anaD, rfl⟩
  | .alu .ana .e, _ => exact ⟨.anaE, rfl⟩
  | .alu .ana .h, _ => exact ⟨.anaH, rfl⟩
  | .alu .ana .l, _ => exact ⟨.anaL, rfl⟩
  | .alu .ana .a, _ => exact ⟨.anaA, rfl⟩
  | .alu .ana .m, _ => exact ⟨.anaM, rfl⟩
  | .aluImm .ana v, _ => exact ⟨.ani v, rfl⟩
  | .alu .xra .b, _ => exact ⟨.xraB, rfl⟩
  | .alu .xra .c, _ => exact ⟨.xraC, rfl⟩
  | .alu .xra .d, _ => exact ⟨.xraD, rfl⟩
  | .alu .xra .e, _ => exact ⟨.xraE, rfl⟩
  | .alu .xra .h, _ => exact ⟨.xraH, rfl⟩
  | .alu .xra .l, _ => exact ⟨.xraL, rfl⟩
  | .alu .xra .a, _ => exact ⟨.xraA, rfl⟩
  | .alu .xra .m, _ => exact ⟨.xraM, rfl⟩
  | .aluImm .xra v, _ => exact ⟨.xri v, rfl⟩
  | .alu .ora .b, _ => exact ⟨.oraB, rfl⟩
  | .alu .ora .c, _ => exact ⟨.oraC, rfl⟩
  | .alu .ora .d, _ => exact ⟨.oraD, rfl⟩
  | .alu .ora .e, _ => exact ⟨.oraE, rfl⟩
  | .alu .ora .h, _ => exact ⟨.oraH, rfl⟩
  | .alu .ora .l, _ => exact ⟨.oraL, rfl⟩
  | .alu .ora .a, _ => exact ⟨.oraA, rfl⟩
  | .alu .ora .m, _ => exact ⟨.oraM, rfl⟩
  | .aluImm .ora v, _ => exact ⟨.ori v, rfl⟩
  | .alu .cmp .b, _ => exact ⟨.cmpB, rfl⟩
  | .alu .cmp .c, _ => exact ⟨.cmpC, rfl⟩
  | .alu .cmp .d, _ => exact ⟨.cmpD, rfl⟩
  | .alu .cmp .e, _ => exact ⟨.cmpE, rfl⟩
  | .alu .cmp .h, _ => exact ⟨.cmpH, rfl⟩
  | .alu .cmp .l, _ => exact ⟨.cmpL, rfl⟩
  | .alu .cmp .a, _ => exact ⟨.cmpA, rfl⟩
  | .alu .cmp .m, _ => exact ⟨.cmpM, rfl⟩
  | .aluImm .cmp v, _ => exact ⟨.cpi v, rfl⟩
  | .rlc, _ => exact ⟨.rlc, rfl⟩
  | .rrc, _ => exact ⟨.rrc, rfl⟩
  | .ral, _ => exact ⟨.ral, rfl⟩
  | .rar, _ => exact ⟨.rar, rfl⟩
  | .cma, _ => exact ⟨.cma, rfl⟩
  | .cmc, _ => exact ⟨.cmc, rfl⟩
  | .stc, _ => exact ⟨.stc, rfl⟩
  | .jmp w, _ => exact ⟨.jmp w, rfl⟩
  | .jcond .nz w, _ => exact ⟨.jnz w, rfl⟩
  | .jcond .z w, _ => exact ⟨.jz w, rfl⟩
  | .jcond .nc w, _ => exact ⟨.jnc w, rfl⟩
  | .jcond .c w, _ => exact ⟨.jc w, rfl⟩
  | .jcond .po w, _ => exact ⟨.jpo w, rfl⟩
  | .jcond .pe w, _ => exact ⟨.jpe w, rfl⟩
  | .jcond .p w, _ => exact ⟨.jp w, rfl⟩
  | .jcond .m w, _ => exact ⟨.jm w, rfl⟩
  | .call w, _ => exact ⟨.call w, rfl⟩
  | .ccond .nz w, _ => exact ⟨.cnz w, rfl⟩
  | .ccond .z w, _ => exact ⟨.cz w, rfl⟩
  | .ccond .nc w, _ => exact ⟨.cnc w, rfl⟩
  | .ccond .c w, _ => exact ⟨.cc w, rfl⟩
  | .ccond .po w, _ => exact ⟨.cpo w, rfl⟩
  | .ccond .pe w, _ => exact ⟨.cpe w, rfl⟩
  | .ccond .p w, _ => exact ⟨.cp w, rfl⟩
  | .ccond .m w, _ => exact ⟨.cm w, rfl⟩
  | .ret, _ => exact ⟨.ret, rfl⟩
  | .rcond .nz, _ => exact ⟨.rnz, rfl⟩
  | .rcond .z, _ => exact ⟨.rz, rfl⟩
  | .rcond .nc, _ => exact ⟨.rnc, rfl⟩
  | .rcond .c, _ => exact ⟨.rc, rfl⟩
  | .rcond .po, _ => exact ⟨.rpo, rfl⟩
  | .rcond .pe, _ => exact ⟨.rpe, rfl⟩
  | .rcond .p, _ => exact ⟨.rp, rfl⟩
  | .rcond .m, _ => exact ⟨.rm, rfl⟩
  | .pchl, _ => exact ⟨.pchl, rfl⟩
  | .push .bc, _ => exact ⟨.pushB, rfl⟩
  | .push .de, _ => exact ⟨.pushD, rfl⟩
  | .push .hl, _ => exact ⟨.pushH, rfl⟩
  | .push .psw, _ => exact ⟨.pushPsw, rfl⟩
  | .pop .bc, _ => exact ⟨.popB, rfl⟩
  | .pop .de, _ => exact ⟨.popD, rfl⟩
  | .pop .hl, _ => exact ⟨.popH, rfl⟩
  | .pop .psw, _ => exact ⟨.popPsw, rfl⟩
  | .xthl, _ => exact ⟨.xthl, rfl⟩
  | .sphl, _ => exact ⟨.sphl, rfl⟩
  | .input v, _ => exact ⟨.inPort v, rfl⟩
  | .output v, _ => exact ⟨.outPort v, rfl⟩
  | .ei, _ => exact ⟨.ei, rfl⟩
  | .di, _ => exact ⟨.di, rfl⟩
  | .hlt, _ => exact ⟨.hlt, rfl⟩
  | .nop, _ => exact ⟨.nop, rfl⟩
  | .rim, _ => exact ⟨.rim, rfl⟩
  | .sim, _ => exact ⟨.sim, rfl⟩
  | .rst n, _ =>
    have h : n = 0 ∨ n = 1 ∨ n = 2 ∨ n = 3 ∨ n = 4 ∨ n = 5 ∨ n = 6 ∨ n = 7 := by revert n; decide
    rcases h with rfl | rfl | rfl | rfl | rfl | rfl | rfl | rfl
    · exact ⟨.rst0, rfl⟩
    · exact ⟨.rst1, rfl⟩
    · exact ⟨.rst2, rfl⟩
    · exact ⟨.rst3, rfl⟩
    · exact ⟨.rst4, rfl⟩
    · exact ⟨.rst5, rfl⟩
    · exact ⟨.rst6, rfl⟩
    · exact ⟨.rst7, rfl⟩

end Sys2Proof
end

