-- ==== Sys2Proof/Laws/Flags.lean ====
section
/-! SUPPORT. The flag computations, the flag byte, the condition names and the control bits, each said once. -/

namespace Sys2Proof.Machine

/-- `parity` counts the 1 bits. -/
theorem parity_eq (r : Byte) : parity r = decide ((List.range 8).countP (fun k => r.getLsbD k) % 2 = 0) := by
  simp only [parity, popcount, bitOf, List.range, List.range.loop, List.countP_cons, List.countP_nil]
  cases r.getLsbD 0 <;> cases r.getLsbD 1 <;> cases r.getLsbD 2 <;> cases r.getLsbD 3 <;> cases r.getLsbD 4 <;>
    cases r.getLsbD 5 <;> cases r.getLsbD 6 <;> cases r.getLsbD 7 <;> rfl

/-- `set_zsp(r)` leaves Z, S, P as R40 gives them for r. -/
theorem zspOf_setZsp (r : Byte) (f : Flags) : (setZsp r f).ZspOf r := by
  refine ⟨?_, bitOf_7 r, parity_eq r⟩
  simp only [setZsp]
  rw [beq_eq_decide, decide_eq_decide]
  exact ⟨fun h => by simp [h], fun h => BitVec.eq_of_toNat_eq (by simpa using h)⟩

/-- The result of `sub8` as a natural number reduced modulo 256. -/
theorem sub8_r (a b : Byte) (c : Bool) : (sub8 a b c).r = BitVec.ofNat 8 (512 + a.toNat - b.toNat - c.toNat) := by
  apply BitVec.eq_of_toNat_eq
  have h1 := a.isLt
  have h2 := b.isLt
  have h3 := Bool.toNat_le c
  simp only [sub8, BitVec.toNat_ofInt, BitVec.toNat_ofNat]
  omega

/-- The bits of the flag byte (R41). -/
theorem packFlags_bits : ∀ (s z ac p cy : Bool) (fill : BitVec 3),
    (packFlags fill ⟨s, z, ac, p, cy⟩).getLsbD 7 = s ∧ (packFlags fill ⟨s, z, ac, p, cy⟩).getLsbD 6 = z ∧
    (packFlags fill ⟨s, z, ac, p, cy⟩).getLsbD 4 = ac ∧ (packFlags fill ⟨s, z, ac, p, cy⟩).getLsbD 2 = p ∧
    (packFlags fill ⟨s, z, ac, p, cy⟩).getLsbD 0 = cy ∧
    (packFlags fill ⟨s, z, ac, p, cy⟩).getLsbD 5 = fill.getLsbD 2 ∧
    (packFlags fill ⟨s, z, ac, p, cy⟩).getLsbD 3 = fill.getLsbD 1 ∧
    (packFlags fill ⟨s, z, ac, p, cy⟩).getLsbD 1 = fill.getLsbD 0 := by decide

/-- `unpack_flags(pack_flags(fill))` is the flags, whatever the fill bits (R41). -/
theorem unpackFlags_packFlags (fill : BitVec 3) (f : Flags) : unpackFlags (packFlags fill f) = f := by
  obtain ⟨s, z, ac, p, cy⟩ := f
  obtain ⟨h7, h6, h4, h2, h0, -⟩ := packFlags_bits s z ac p cy fill
  simp only [unpackFlags, bitOf, h7, h6, h4, h2, h0]

/-- The condition names (R104) and `cond(ccc)` (R158) agree. -/
theorem condTrue_iff (cond : Cond) (f : Flags) : CondTrue cond f ↔ condHolds cond f = true := by
  cases cond <;> simp [CondTrue, condHolds]

/-- What SIM leaves in every control bit (R293). -/
theorem simCtl_eq (a : Byte) (c : Ctl) : simCtl a c =
    { inte := c.inte
      m55 := if bitOf a 3 then bitOf a 0 else c.m55
      m65 := if bitOf a 3 then bitOf a 1 else c.m65
      m75 := if bitOf a 3 then bitOf a 2 else c.m75
      i75 := if bitOf a 4 then false else c.i75
      sod := if bitOf a 6 then bitOf a 7 else c.sod } := by
  unfold simCtl simSerial simReset75 simMasks
  cases bitOf a 3 <;> cases bitOf a 4 <;> cases bitOf a 6 <;> rfl

end Sys2Proof.Machine
end

