-- ==== Sys2Proof/Laws/Frames.lean ====
section
/-! SUPPORT. The terms of Safety.lean about the shared operations: what a write leaves, and the accumulator ALU instructions. -/

namespace Sys2Proof.Machine

/-- `reg_write` of a register (R151). -/
theorem wroteReg_regWrite (s : State) {r : Reg8} (hr : r ≠ .m) (v : Byte) : WroteReg s (s.regWrite r v) r v :=
  fun _ hx => State.regRead_regWrite s hr hx v

/-- `MemWrite(addr, 1, v)` (R72). -/
theorem storedByte_write (s : State) (a : Word) (v : Byte) : StoredByte s (s.write a v) a v :=
  fun x => State.read_write s a x v

/-- Two byte writes, low address first (R76). -/
theorem storedWord_write (s : State) (a : Word) (lo hi : Byte) :
    StoredWord s ((s.write a lo).write (a + 1#16) hi) a lo hi := by
  intro x
  simp only [State.read_write]
  by_cases h : x = a
  · subst h; simp [(add_one_ne x).symm]
  · simp [h]

/-- `push16(w)` (R270). -/
theorem storedWord_push16 (s : State) (w : Word) : StoredWord s (s.push16 w) (s.sp - 2#16) (lo8 w) (hi8 w) :=
  fun x => State.read_push16 s w x

/-- The bytes of an accumulator ALU instruction. -/
theorem encode_of_aluForm {i : Instr} {s : State} {op : AluOp} {x : Byte} {bytes : List Byte} (h : AluForm i s op x bytes) :
    encode i = bytes := by
  cases h with
  | reg r hf => rw [encode_of_form hf]; cases op <;> cases r <;> rfl
  | imm v hf => rw [encode_of_form hf]; cases op <;> rfl

/-- The effect of an accumulator ALU instruction. -/
theorem exec_of_aluForm {i : Instr} {s : State} {op : AluOp} {x : Byte} {bytes : List Byte} (h : AluForm i s op x bytes) :
    exec i s = .next (aluEffect op x s) := by
  cases h with
  | reg r hf => rw [exec_of_form hf]; rfl
  | imm v hf => rw [exec_of_form hf]; rfl

end Sys2Proof.Machine
end

