-- ==== Sys2Proof/Tests/Slice0.lean ====
section
/-! SUPPORT. The model's own tests. Expected results come from spec/95_test_vectors.md (its V, E and S identifiers) and from the *Encoding*
lines of the rules; the last part shows, for every obligation with hypotheses, a state and operands that meet them. -/

namespace Sys2Proof.Tests

open Sys2Proof Sys2Proof.Machine

/-! ## Well-formedness: each ill-formed term is refused, and its byte is another instruction or none -/

theorem test_ill_formed_mov_m_m : (Form.mov .m .m).wellFormed = false := by decide
theorem test_ill_formed_ldax_hl : (Form.ldax .hl).wellFormed = false := by decide
theorem test_ill_formed_ldax_sp : (Form.ldax .sp).wellFormed = false := by decide
theorem test_ill_formed_stax_hl : (Form.stax .hl).wellFormed = false := by decide
theorem test_ill_formed_stax_sp : (Form.stax .sp).wellFormed = false := by decide

/-- `01 110 110` is HLT (R113); `00 10 1010`, `00 11 1010`, `00 10 0010`, `00 11 0010` are LHLD, LDA, SHLD, STA. -/
theorem test_ill_formed_bytes :
    decode [0b01_110_110#8] = .ok .hlt [] ∧ decode [0b00_10_1010#8, 0x34#8, 0x12#8] = .ok (.lhld 0x1234#16) [] ∧
    decode [0b00_11_1010#8, 0x34#8, 0x12#8] = .ok (.lda 0x1234#16) [] ∧
    decode [0b00_10_0010#8, 0x34#8, 0x12#8] = .ok (.shld 0x1234#16) [] ∧
    decode [0b00_11_0010#8, 0x34#8, 0x12#8] = .ok (.sta 0x1234#16) [] := by decide

/-! ## Decoding: every constructor, from its rule's encoding bits; an 8-bit operand A5, a 16-bit operand 34 12 -/

/-- MOV B,r (R180). -/
theorem test_decode_r180_b :
    [decode [0b01_000_000#8], decode [0b01_000_001#8], decode [0b01_000_010#8], decode [0b01_000_011#8], decode [0b01_000_100#8],
     decode [0b01_000_101#8], decode [0b01_000_111#8]] =
    [.ok .movBB [], .ok .movBC [], .ok .movBD [], .ok .movBE [], .ok .movBH [], .ok .movBL [], .ok .movBA []] := by rfl

/-- MOV C,r (R180). -/
theorem test_decode_r180_c :
    [decode [0b01_001_000#8], decode [0b01_001_001#8], decode [0b01_001_010#8], decode [0b01_001_011#8], decode [0b01_001_100#8],
     decode [0b01_001_101#8], decode [0b01_001_111#8]] =
    [.ok .movCB [], .ok .movCC [], .ok .movCD [], .ok .movCE [], .ok .movCH [], .ok .movCL [], .ok .movCA []] := by rfl

/-- MOV D,r (R180). -/
theorem test_decode_r180_d :
    [decode [0b01_010_000#8], decode [0b01_010_001#8], decode [0b01_010_010#8], decode [0b01_010_011#8], decode [0b01_010_100#8],
     decode [0b01_010_101#8], decode [0b01_010_111#8]] =
    [.ok .movDB [], .ok .movDC [], .ok .movDD [], .ok .movDE [], .ok .movDH [], .ok .movDL [], .ok .movDA []] := by rfl

/-- MOV E,r (R180). -/
theorem test_decode_r180_e :
    [decode [0b01_011_000#8], decode [0b01_011_001#8], decode [0b01_011_010#8], decode [0b01_011_011#8], decode [0b01_011_100#8],
     decode [0b01_011_101#8], decode [0b01_011_111#8]] =
    [.ok .movEB [], .ok .movEC [], .ok .movED [], .ok .movEE [], .ok .movEH [], .ok .movEL [], .ok .movEA []] := by rfl

/-- MOV H,r (R180). -/
theorem test_decode_r180_h :
    [decode [0b01_100_000#8], decode [0b01_100_001#8], decode [0b01_100_010#8], decode [0b01_100_011#8], decode [0b01_100_100#8],
     decode [0b01_100_101#8], decode [0b01_100_111#8]] =
    [.ok .movHB [], .ok .movHC [], .ok .movHD [], .ok .movHE [], .ok .movHH [], .ok .movHL [], .ok .movHA []] := by rfl

/-- MOV L,r (R180). -/
theorem test_decode_r180_l :
    [decode [0b01_101_000#8], decode [0b01_101_001#8], decode [0b01_101_010#8], decode [0b01_101_011#8], decode [0b01_101_100#8],
     decode [0b01_101_101#8], decode [0b01_101_111#8]] =
    [.ok .movLB [], .ok .movLC [], .ok .movLD [], .ok .movLE [], .ok .movLH [], .ok .movLL [], .ok .movLA []] := by rfl

/-- MOV A,r (R180). -/
theorem test_decode_r180_a :
    [decode [0b01_111_000#8], decode [0b01_111_001#8], decode [0b01_111_010#8], decode [0b01_111_011#8], decode [0b01_111_100#8],
     decode [0b01_111_101#8], decode [0b01_111_111#8]] =
    [.ok .movAB [], .ok .movAC [], .ok .movAD [], .ok .movAE [], .ok .movAH [], .ok .movAL [], .ok .movAA []] := by rfl

/-- MOV r,M (R181). -/
theorem test_decode_r181 :
    [decode [0b01_000_110#8], decode [0b01_001_110#8], decode [0b01_010_110#8], decode [0b01_011_110#8], decode [0b01_100_110#8],
     decode [0b01_101_110#8], decode [0b01_111_110#8]] =
    [.ok .movBM [], .ok .movCM [], .ok .movDM [], .ok .movEM [], .ok .movHM [], .ok .movLM [], .ok .movAM []] := by rfl

/-- MOV M,r (R182). -/
theorem test_decode_r182 :
    [decode [0b01_110_000#8], decode [0b01_110_001#8], decode [0b01_110_010#8], decode [0b01_110_011#8], decode [0b01_110_100#8],
     decode [0b01_110_101#8], decode [0b01_110_111#8]] =
    [.ok .movMB [], .ok .movMC [], .ok .movMD [], .ok .movME [], .ok .movMH [], .ok .movML [], .ok .movMA []] := by rfl

/-- MVI r (R183). -/
theorem test_decode_r183 :
    [decode [0b00_000_110#8, 0xA5#8], decode [0b00_001_110#8, 0xA5#8], decode [0b00_010_110#8, 0xA5#8],
     decode [0b00_011_110#8, 0xA5#8], decode [0b00_100_110#8, 0xA5#8], decode [0b00_101_110#8, 0xA5#8], decode [0b00_111_110#8, 0xA5#8]] =
    [.ok (.mviB 0xA5#8) [], .ok (.mviC 0xA5#8) [], .ok (.mviD 0xA5#8) [], .ok (.mviE 0xA5#8) [], .ok (.mviH 0xA5#8) [],
     .ok (.mviL 0xA5#8) [], .ok (.mviA 0xA5#8) []] := by rfl

/-- MVI M (R184). -/
theorem test_decode_r184 :
    [decode [0b00_110_110#8, 0xA5#8]] =
    [.ok (.mviM 0xA5#8) []] := by rfl

/-- LXI (R185). -/
theorem test_decode_r185 :
    [decode [0b00_00_0001#8, 0x34#8, 0x12#8], decode [0b00_01_0001#8, 0x34#8, 0x12#8], decode [0b00_10_0001#8, 0x34#8, 0x12#8],
     decode [0b00_11_0001#8, 0x34#8, 0x12#8]] =
    [.ok (.lxiB 0x1234#16) [], .ok (.lxiD 0x1234#16) [], .ok (.lxiH 0x1234#16) [], .ok (.lxiSp 0x1234#16) []] := by rfl

/-- LDA (R186). -/
theorem test_decode_r186 :
    [decode [0b00_111_010#8, 0x34#8, 0x12#8]] =
    [.ok (.lda 0x1234#16) []] := by rfl

/-- STA (R187). -/
theorem test_decode_r187 :
    [decode [0b00_110_010#8, 0x34#8, 0x12#8]] =
    [.ok (.sta 0x1234#16) []] := by rfl

/-- LHLD (R188). -/
theorem test_decode_r188 :
    [decode [0b00_101_010#8, 0x34#8, 0x12#8]] =
    [.ok (.lhld 0x1234#16) []] := by rfl

/-- SHLD (R189). -/
theorem test_decode_r189 :
    [decode [0b00_100_010#8, 0x34#8, 0x12#8]] =
    [.ok (.shld 0x1234#16) []] := by rfl

/-- LDAX (R190). -/
theorem test_decode_r190 :
    [decode [0b00_00_1010#8], decode [0b00_01_1010#8]] =
    [.ok .ldaxB [], .ok .ldaxD []] := by rfl

/-- STAX (R191). -/
theorem test_decode_r191 :
    [decode [0b00_00_0010#8], decode [0b00_01_0010#8]] =
    [.ok .staxB [], .ok .staxD []] := by rfl

/-- XCHG (R192). -/
theorem test_decode_r192 :
    [decode [0b11_101_011#8]] =
    [.ok .xchg []] := by rfl

/-- ADD r (R200). -/
theorem test_decode_r200 :
    [decode [0b10_000_000#8], decode [0b10_000_001#8], decode [0b10_000_010#8], decode [0b10_000_011#8], decode [0b10_000_100#8],
     decode [0b10_000_101#8], decode [0b10_000_111#8]] =
    [.ok .addB [], .ok .addC [], .ok .addD [], .ok .addE [], .ok .addH [], .ok .addL [], .ok .addA []] := by rfl

/-- ADD M (R201). -/
theorem test_decode_r201 :
    [decode [0b10_000_110#8]] =
    [.ok .addM []] := by rfl

/-- ADI (R202). -/
theorem test_decode_r202 :
    [decode [0b11_000_110#8, 0xA5#8]] =
    [.ok (.adi 0xA5#8) []] := by rfl

/-- ADC r (R203). -/
theorem test_decode_r203 :
    [decode [0b10_001_000#8], decode [0b10_001_001#8], decode [0b10_001_010#8], decode [0b10_001_011#8], decode [0b10_001_100#8],
     decode [0b10_001_101#8], decode [0b10_001_111#8]] =
    [.ok .adcB [], .ok .adcC [], .ok .adcD [], .ok .adcE [], .ok .adcH [], .ok .adcL [], .ok .adcA []] := by rfl

/-- ADC M (R204). -/
theorem test_decode_r204 :
    [decode [0b10_001_110#8]] =
    [.ok .adcM []] := by rfl

/-- ACI (R205). -/
theorem test_decode_r205 :
    [decode [0b11_001_110#8, 0xA5#8]] =
    [.ok (.aci 0xA5#8) []] := by rfl

/-- SUB r (R206). -/
theorem test_decode_r206 :
    [decode [0b10_010_000#8], decode [0b10_010_001#8], decode [0b10_010_010#8], decode [0b10_010_011#8], decode [0b10_010_100#8],
     decode [0b10_010_101#8], decode [0b10_010_111#8]] =
    [.ok .subB [], .ok .subC [], .ok .subD [], .ok .subE [], .ok .subH [], .ok .subL [], .ok .subA []] := by rfl

/-- SUB M (R207). -/
theorem test_decode_r207 :
    [decode [0b10_010_110#8]] =
    [.ok .subM []] := by rfl

/-- SUI (R208). -/
theorem test_decode_r208 :
    [decode [0b11_010_110#8, 0xA5#8]] =
    [.ok (.sui 0xA5#8) []] := by rfl

/-- SBB r (R209). -/
theorem test_decode_r209 :
    [decode [0b10_011_000#8], decode [0b10_011_001#8], decode [0b10_011_010#8], decode [0b10_011_011#8], decode [0b10_011_100#8],
     decode [0b10_011_101#8], decode [0b10_011_111#8]] =
    [.ok .sbbB [], .ok .sbbC [], .ok .sbbD [], .ok .sbbE [], .ok .sbbH [], .ok .sbbL [], .ok .sbbA []] := by rfl

/-- SBB M (R210). -/
theorem test_decode_r210 :
    [decode [0b10_011_110#8]] =
    [.ok .sbbM []] := by rfl

/-- SBI (R211). -/
theorem test_decode_r211 :
    [decode [0b11_011_110#8, 0xA5#8]] =
    [.ok (.sbi 0xA5#8) []] := by rfl

/-- INR r (R212). -/
theorem test_decode_r212 :
    [decode [0b00_000_100#8], decode [0b00_001_100#8], decode [0b00_010_100#8], decode [0b00_011_100#8], decode [0b00_100_100#8],
     decode [0b00_101_100#8], decode [0b00_111_100#8]] =
    [.ok .inrB [], .ok .inrC [], .ok .inrD [], .ok .inrE [], .ok .inrH [], .ok .inrL [], .ok .inrA []] := by rfl

/-- INR M (R213). -/
theorem test_decode_r213 :
    [decode [0b00_110_100#8]] =
    [.ok .inrM []] := by rfl

/-- DCR r (R214). -/
theorem test_decode_r214 :
    [decode [0b00_000_101#8], decode [0b00_001_101#8], decode [0b00_010_101#8], decode [0b00_011_101#8], decode [0b00_100_101#8],
     decode [0b00_101_101#8], decode [0b00_111_101#8]] =
    [.ok .dcrB [], .ok .dcrC [], .ok .dcrD [], .ok .dcrE [], .ok .dcrH [], .ok .dcrL [], .ok .dcrA []] := by rfl

/-- DCR M (R215). -/
theorem test_decode_r215 :
    [decode [0b00_110_101#8]] =
    [.ok .dcrM []] := by rfl

/-- INX (R216). -/
theorem test_decode_r216 :
    [decode [0b00_00_0011#8], decode [0b00_01_0011#8], decode [0b00_10_0011#8], decode [0b00_11_0011#8]] =
    [.ok .inxB [], .ok .inxD [], .ok .inxH [], .ok .inxSp []] := by rfl

/-- DCX (R217). -/
theorem test_decode_r217 :
    [decode [0b00_00_1011#8], decode [0b00_01_1011#8], decode [0b00_10_1011#8], decode [0b00_11_1011#8]] =
    [.ok .dcxB [], .ok .dcxD [], .ok .dcxH [], .ok .dcxSp []] := by rfl

/-- DAD (R218). -/
theorem test_decode_r218 :
    [decode [0b00_00_1001#8], decode [0b00_01_1001#8], decode [0b00_10_1001#8], decode [0b00_11_1001#8]] =
    [.ok .dadB [], .ok .dadD [], .ok .dadH [], .ok .dadSp []] := by rfl

/-- DAA (R219). -/
theorem test_decode_r219 :
    [decode [0b00_100_111#8]] =
    [.ok .daa []] := by rfl

/-- ANA r (R230). -/
theorem test_decode_r230 :
    [decode [0b10_100_000#8], decode [0b10_100_001#8], decode [0b10_100_010#8], decode [0b10_100_011#8], decode [0b10_100_100#8],
     decode [0b10_100_101#8], decode [0b10_100_111#8]] =
    [.ok .anaB [], .ok .anaC [], .ok .anaD [], .ok .anaE [], .ok .anaH [], .ok .anaL [], .ok .anaA []] := by rfl

/-- ANA M (R231). -/
theorem test_decode_r231 :
    [decode [0b10_100_110#8]] =
    [.ok .anaM []] := by rfl

/-- ANI (R232). -/
theorem test_decode_r232 :
    [decode [0b11_100_110#8, 0xA5#8]] =
    [.ok (.ani 0xA5#8) []] := by rfl

/-- XRA r (R233). -/
theorem test_decode_r233 :
    [decode [0b10_101_000#8], decode [0b10_101_001#8], decode [0b10_101_010#8], decode [0b10_101_011#8], decode [0b10_101_100#8],
     decode [0b10_101_101#8], decode [0b10_101_111#8]] =
    [.ok .xraB [], .ok .xraC [], .ok .xraD [], .ok .xraE [], .ok .xraH [], .ok .xraL [], .ok .xraA []] := by rfl

/-- XRA M (R234). -/
theorem test_decode_r234 :
    [decode [0b10_101_110#8]] =
    [.ok .xraM []] := by rfl

/-- XRI (R235). -/
theorem test_decode_r235 :
    [decode [0b11_101_110#8, 0xA5#8]] =
    [.ok (.xri 0xA5#8) []] := by rfl

/-- ORA r (R236). -/
theorem test_decode_r236 :
    [decode [0b10_110_000#8], decode [0b10_110_001#8], decode [0b10_110_010#8], decode [0b10_110_011#8], decode [0b10_110_100#8],
     decode [0b10_110_101#8], decode [0b10_110_111#8]] =
    [.ok .oraB [], .ok .oraC [], .ok .oraD [], .ok .oraE [], .ok .oraH [], .ok .oraL [], .ok .oraA []] := by rfl

/-- ORA M (R237). -/
theorem test_decode_r237 :
    [decode [0b10_110_110#8]] =
    [.ok .oraM []] := by rfl

/-- ORI (R238). -/
theorem test_decode_r238 :
    [decode [0b11_110_110#8, 0xA5#8]] =
    [.ok (.ori 0xA5#8) []] := by rfl

/-- CMP r (R239). -/
theorem test_decode_r239 :
    [decode [0b10_111_000#8], decode [0b10_111_001#8], decode [0b10_111_010#8], decode [0b10_111_011#8], decode [0b10_111_100#8],
     decode [0b10_111_101#8], decode [0b10_111_111#8]] =
    [.ok .cmpB [], .ok .cmpC [], .ok .cmpD [], .ok .cmpE [], .ok .cmpH [], .ok .cmpL [], .ok .cmpA []] := by rfl

/-- CMP M (R240). -/
theorem test_decode_r240 :
    [decode [0b10_111_110#8]] =
    [.ok .cmpM []] := by rfl

/-- CPI (R241). -/
theorem test_decode_r241 :
    [decode [0b11_111_110#8, 0xA5#8]] =
    [.ok (.cpi 0xA5#8) []] := by rfl

/-- RLC (R242). -/
theorem test_decode_r242 :
    [decode [0b00_000_111#8]] =
    [.ok .rlc []] := by rfl

/-- RRC (R243). -/
theorem test_decode_r243 :
    [decode [0b00_001_111#8]] =
    [.ok .rrc []] := by rfl

/-- RAL (R244). -/
theorem test_decode_r244 :
    [decode [0b00_010_111#8]] =
    [.ok .ral []] := by rfl

/-- RAR (R245). -/
theorem test_decode_r245 :
    [decode [0b00_011_111#8]] =
    [.ok .rar []] := by rfl

/-- CMA (R246). -/
theorem test_decode_r246 :
    [decode [0b00_101_111#8]] =
    [.ok .cma []] := by rfl

/-- CMC (R247). -/
theorem test_decode_r247 :
    [decode [0b00_111_111#8]] =
    [.ok .cmc []] := by rfl

/-- STC (R248). -/
theorem test_decode_r248 :
    [decode [0b00_110_111#8]] =
    [.ok .stc []] := by rfl

/-- JMP (R260). -/
theorem test_decode_r260 :
    [decode [0b11_000_011#8, 0x34#8, 0x12#8]] =
    [.ok (.jmp 0x1234#16) []] := by rfl

/-- Jcond (R261). -/
theorem test_decode_r261 :
    [decode [0b11_000_010#8, 0x34#8, 0x12#8], decode [0b11_001_010#8, 0x34#8, 0x12#8], decode [0b11_010_010#8, 0x34#8, 0x12#8],
     decode [0b11_011_010#8, 0x34#8, 0x12#8], decode [0b11_100_010#8, 0x34#8, 0x12#8], decode [0b11_101_010#8, 0x34#8, 0x12#8],
     decode [0b11_110_010#8, 0x34#8, 0x12#8], decode [0b11_111_010#8, 0x34#8, 0x12#8]] =
    [.ok (.jnz 0x1234#16) [], .ok (.jz 0x1234#16) [], .ok (.jnc 0x1234#16) [], .ok (.jc 0x1234#16) [], .ok (.jpo 0x1234#16) [],
     .ok (.jpe 0x1234#16) [], .ok (.jp 0x1234#16) [], .ok (.jm 0x1234#16) []] := by rfl

/-- CALL (R262). -/
theorem test_decode_r262 :
    [decode [0b11_001_101#8, 0x34#8, 0x12#8]] =
    [.ok (.call 0x1234#16) []] := by rfl

/-- Ccond (R263). -/
theorem test_decode_r263 :
    [decode [0b11_000_100#8, 0x34#8, 0x12#8], decode [0b11_001_100#8, 0x34#8, 0x12#8], decode [0b11_010_100#8, 0x34#8, 0x12#8],
     decode [0b11_011_100#8, 0x34#8, 0x12#8], decode [0b11_100_100#8, 0x34#8, 0x12#8], decode [0b11_101_100#8, 0x34#8, 0x12#8],
     decode [0b11_110_100#8, 0x34#8, 0x12#8], decode [0b11_111_100#8, 0x34#8, 0x12#8]] =
    [.ok (.cnz 0x1234#16) [], .ok (.cz 0x1234#16) [], .ok (.cnc 0x1234#16) [], .ok (.cc 0x1234#16) [], .ok (.cpo 0x1234#16) [],
     .ok (.cpe 0x1234#16) [], .ok (.cp 0x1234#16) [], .ok (.cm 0x1234#16) []] := by rfl

/-- RET (R264). -/
theorem test_decode_r264 :
    [decode [0b11_001_001#8]] =
    [.ok .ret []] := by rfl

/-- Rcond (R265). -/
theorem test_decode_r265 :
    [decode [0b11_000_000#8], decode [0b11_001_000#8], decode [0b11_010_000#8], decode [0b11_011_000#8], decode [0b11_100_000#8],
     decode [0b11_101_000#8], decode [0b11_110_000#8], decode [0b11_111_000#8]] =
    [.ok .rnz [], .ok .rz [], .ok .rnc [], .ok .rc [], .ok .rpo [], .ok .rpe [], .ok .rp [], .ok .rm []] := by rfl

/-- RST (R266). -/
theorem test_decode_r266 :
    [decode [0b11_000_111#8], decode [0b11_001_111#8], decode [0b11_010_111#8], decode [0b11_011_111#8], decode [0b11_100_111#8],
     decode [0b11_101_111#8], decode [0b11_110_111#8], decode [0b11_111_111#8]] =
    [.ok .rst0 [], .ok .rst1 [], .ok .rst2 [], .ok .rst3 [], .ok .rst4 [], .ok .rst5 [], .ok .rst6 [], .ok .rst7 []] := by rfl

/-- PCHL (R267). -/
theorem test_decode_r267 :
    [decode [0b11_101_001#8]] =
    [.ok .pchl []] := by rfl

/-- PUSH rp (R280). -/
theorem test_decode_r280 :
    [decode [0b11_00_0101#8], decode [0b11_01_0101#8], decode [0b11_10_0101#8]] =
    [.ok .pushB [], .ok .pushD [], .ok .pushH []] := by rfl

/-- PUSH PSW (R281). -/
theorem test_decode_r281 :
    [decode [0b11_11_0101#8]] =
    [.ok .pushPsw []] := by rfl

/-- POP rp (R282). -/
theorem test_decode_r282 :
    [decode [0b11_00_0001#8], decode [0b11_01_0001#8], decode [0b11_10_0001#8]] =
    [.ok .popB [], .ok .popD [], .ok .popH []] := by rfl

/-- POP PSW (R283). -/
theorem test_decode_r283 :
    [decode [0b11_11_0001#8]] =
    [.ok .popPsw []] := by rfl

/-- XTHL (R284). -/
theorem test_decode_r284 :
    [decode [0b11_100_011#8]] =
    [.ok .xthl []] := by rfl

/-- SPHL (R285). -/
theorem test_decode_r285 :
    [decode [0b11_111_001#8]] =
    [.ok .sphl []] := by rfl

/-- IN (R286). -/
theorem test_decode_r286 :
    [decode [0b11_011_011#8, 0xA5#8]] =
    [.ok (.inPort 0xA5#8) []] := by rfl

/-- OUT (R287). -/
theorem test_decode_r287 :
    [decode [0b11_010_011#8, 0xA5#8]] =
    [.ok (.outPort 0xA5#8) []] := by rfl

/-- EI (R288). -/
theorem test_decode_r288 :
    [decode [0b11_111_011#8]] =
    [.ok .ei []] := by rfl

/-- DI (R289). -/
theorem test_decode_r289 :
    [decode [0b11_110_011#8]] =
    [.ok .di []] := by rfl

/-- HLT (R290). -/
theorem test_decode_r290 :
    [decode [0b01_110_110#8]] =
    [.ok .hlt []] := by rfl

/-- NOP (R291). -/
theorem test_decode_r291 :
    [decode [0b00_000_000#8]] =
    [.ok .nop []] := by rfl

/-- RIM (R292). -/
theorem test_decode_r292 :
    [decode [0b00_100_000#8]] =
    [.ok .rim []] := by rfl

/-- SIM (R293). -/
theorem test_decode_r293 :
    [decode [0b00_110_000#8]] =
    [.ok .sim []] := by rfl

/-- The ten bytes with no entry (R112), a truncated instruction, and no bytes. -/
theorem test_decode_none :
    [0x08#8, 0x10#8, 0x18#8, 0x28#8, 0x38#8, 0xCB#8, 0xD9#8, 0xDD#8, 0xED#8, 0xFD#8].map (fun op => decode [op]) =
      [.illegalOpcode 0x08#8, .illegalOpcode 0x10#8, .illegalOpcode 0x18#8, .illegalOpcode 0x28#8, .illegalOpcode 0x38#8,
       .illegalOpcode 0xCB#8, .illegalOpcode 0xD9#8, .illegalOpcode 0xDD#8, .illegalOpcode 0xED#8, .illegalOpcode 0xFD#8] ∧
    decode [0x3E#8] = .truncated ∧ decode [0xC3#8, 0x00#8] = .truncated ∧ decode [] = .truncated := by decide

/-- The table's numbering: byte 0 in bits 7 to 0, and the bits above `nbits` are 0. -/
theorem test_decode_table_word :
    decodeTableWord 8 0x78 = some .movAB ∧ decodeTableWord 16 0x993E = some (.mviA 0x99#8) ∧
    decodeTableWord 24 0xC05121 = some (.lxiH 0xC051#16) ∧ decodeTableWord 8 0xC3 = some (.jmp 0x0000#16) ∧
    decodeTableWord 8 0xCB = none := by decide

/-- A table word placed after reset is the next step's instruction: LXI H,C051 and MVI A,99. -/
theorem test_step_of_fetch_word :
    step (State.reset.withFetchWord 24 0xC05121) =
      .next { State.reset.withFetchWord 24 0xC05121 with regs := ⟨0#8, 0#8, 0#8, 0#8, 0#8, 0xC0#8, 0x51#8⟩, pc := 0x0003#16, steps := 1 } ∧
    step (State.reset.withFetchWord 16 0x993E) =
      .next { State.reset.withFetchWord 16 0x993E with regs := ⟨0x99#8, 0#8, 0#8, 0#8, 0#8, 0#8, 0#8⟩, pc := 0x0002#16, steps := 1 } := by
  exact ⟨by rfl, by rfl⟩

/-! ## The encoder vectors of part 2 -/

/-- E1 to E9. -/
theorem test_encoder_e1_to_e9 :
    encodeLine ['L', 'D', 'A', ' ', 'C', '0', '5', '0'] = .ok [0x3A#8, 0x50#8, 0xC0#8] ∧
    encodeLine ['L', 'X', 'I', ' ', 'H', ',', 'C', '0', '5', '1'] = .ok [0x21#8, 0x51#8, 0xC0#8] ∧
    encodeLine ['M', 'V', 'I', ' ', 'A', ',', '9', '9'] = .ok [0x3E#8, 0x99#8] ∧
    encodeLine ['S', 'U', 'B', ' ', 'M'] = .ok [0x96#8] ∧
    encodeLine ['M', 'O', 'V', ' ', 'A', ' ', ',', ' ', 'B'] = .ok [0x78#8] ∧
    encodeLine [' ', ' ', 'N', 'O', 'P', ' ', ' '] = .ok [0x00#8] ∧
    encodeLine ['L', 'X', 'I', ' ', 'S', 'P', ',', 'F', 'F', 'F', 'F'] = .ok [0x31#8, 0xFF#8, 0xFF#8] ∧
    encodeLine ['R', 'S', 'T', ' ', '7'] = .ok [0xFF#8] ∧
    encodeLine ['P', 'U', 'S', 'H', ' ', 'P', 'S', 'W'] = .ok [0xF5#8] := by decide

/-- E10 to E18. -/
theorem test_encoder_e10_to_e18 :
    encodeLine ['I', 'N', ' ', '0', 'A'] = .ok [0xDB#8, 0x0A#8] ∧
    encodeLine ['J', 'N', 'Z', ' ', '2', '0', '0', '4'] = .ok [0xC2#8, 0x04#8, 0x20#8] ∧
    encodeLine ['M', 'V', 'I', ' ', 'M', ',', '0', '0'] = .ok [0x36#8, 0x00#8] ∧
    encodeLine ['m', 'o', 'v', ' ', 'A', ',', 'B'] = .error .unknownMnemonic ∧
    encodeLine ['M', 'O', 'V', 'E', ' ', 'A', ',', 'B'] = .error .unknownMnemonic ∧
    encodeLine ['M', 'V', 'I', ' ', 'A', ',', 'B'] = .error .invalidOperand ∧
    encodeLine ['M', 'V', 'I', ' ', 'A', ',', '0', 'x', '5'] = .error .malformedImmediate ∧
    encodeLine ['M', 'V', 'I', ' ', 'A', ',', '5'] = .error .malformedImmediate ∧
    encodeLine ['L', 'D', 'A', ' ', 'C', '0', '5'] = .error .malformedImmediate := by decide

/-- E19 to E27. -/
theorem test_encoder_e19_to_e27 :
    encodeLine ['S', 'T', 'A', ' ', 'c', '0', '5', '0'] = .error .malformedImmediate ∧
    encodeLine ['A', 'D', 'I', ' ', '1', 'G'] = .error .malformedImmediate ∧
    encodeLine ['M', 'O', 'V', ' ', 'M', ',', 'M'] = .error .invalidOperand ∧
    encodeLine ['L', 'D', 'A', 'X', ' ', 'H'] = .error .invalidOperand ∧
    encodeLine ['P', 'U', 'S', 'H', ' ', 'S', 'P'] = .error .invalidOperand ∧
    encodeLine ['I', 'N', 'X', ' ', 'P', 'S', 'W'] = .error .invalidOperand ∧
    encodeLine ['R', 'S', 'T', ' ', '8'] = .error .invalidOperand ∧
    encodeLine ['A', 'D', 'D'] = .error .invalidOperand ∧
    encodeLine ['N', 'O', 'P', ' ', 'B'] = .error .invalidOperand := by decide

/-- The loadProgram vector (R124): the second line fails, and nothing is written after the first. -/
theorem test_load_program_stops :
    loadProgram [['M', 'V', 'I', ' ', 'A', ',', '0', '1'], ['A', 'D', 'I', ' ', '1', 'G'], ['H', 'L', 'T']] 0x2000#16 [] =
      ([(0x2000, 0x3E#8), (0x2001, 0x01#8)], some .malformedImmediate) := by decide

/-! ## The single-step vectors of part 3 -/

/-- The start state of the vectors: every value 0, the masks 1 (the reset state), with `bytes` at `pc`. -/
def start (pc : Word) (bytes : List Byte) : State := { State.reset with pc := pc, mem := Memory.writeBytes [] pc bytes }

/-- One step from the given start state makes exactly the listed changes. -/
abbrev vector (pc : Word) (bytes : List Byte) (given changes : State → State) : Prop :=
  step (given (start pc bytes)) = .next (changes (given (start pc bytes)))

/-- The same for the operation of an instruction that takes a draw. -/
abbrev vectorOf (pc : Word) (bytes : List Byte) (given op changes : State → State) : Prop :=
  op (given (start pc bytes)) = changes (given (start pc bytes))

/-- V1: MOV B,C. -/
theorem test_v1_mov_b_c : vector 0x1000#16 [0x41#8] (fun s => { s with regs := { s.regs with b := 0x11#8, c := 0xA5#8 } })
    (fun s => { s with regs := { s.regs with b := 0xA5#8 }, pc := 0x1001#16, flags := ⟨false, false, false, false, false⟩, steps := 1 }) := by rfl

/-- V3: MOV E,M. -/
theorem test_v3_mov_e_m : vector 0x1000#16 [0x5E#8] (fun s => ({ s with regs := { s.regs with h := 0x20#8, l := 0x00#8 } } : State) |>.write 0x2000#16 0x77#8)
    (fun s => { s with regs := { s.regs with e := 0x77#8 }, pc := 0x1001#16, flags := ⟨false, false, false, false, false⟩, steps := 1 }) := by rfl

/-- V4: MOV M,H. -/
theorem test_v4_mov_m_h : vector 0x1000#16 [0x74#8] (fun s => { s with regs := { s.regs with h := 0x20#8, l := 0x50#8 } })
    (fun s => ({ s with pc := 0x1001#16, flags := ⟨false, false, false, false, false⟩, steps := 1 } : State) |>.write 0x2050#16 0x20#8) := by rfl

/-- V5: MVI D,FF. -/
theorem test_v5_mvi_d_ff : vector 0x1000#16 [0x16#8, 0xFF#8] (fun s => { s with flags := { s.flags with z := true } })
    (fun s => { s with regs := { s.regs with d := 0xFF#8 }, pc := 0x1002#16, flags := ⟨false, true, false, false, false⟩, steps := 1 }) := by rfl

/-- V6: MVI M,3E. -/
theorem test_v6_mvi_m_3e : vector 0x1000#16 [0x36#8, 0x3E#8] (fun s => { s with regs := { s.regs with h := 0x30#8, l := 0x00#8 } })
    (fun s => ({ s with pc := 0x1002#16, flags := ⟨false, false, false, false, false⟩, steps := 1 } : State) |>.write 0x3000#16 0x3E#8) := by rfl

/-- V7: LXI SP,FFFF. -/
theorem test_v7_lxi_sp_ffff : vector 0x1000#16 [0x31#8, 0xFF#8, 0xFF#8] (fun s => s)
    (fun s => { s with pc := 0x1003#16, sp := 0xFFFF#16, flags := ⟨false, false, false, false, false⟩, steps := 1 }) := by rfl

/-- V8: LXI H,C051. -/
theorem test_v8_lxi_h_c051 : vector 0x1000#16 [0x21#8, 0x51#8, 0xC0#8] (fun s => s)
    (fun s => { s with regs := { s.regs with h := 0xC0#8, l := 0x51#8 }, pc := 0x1003#16, flags := ⟨false, false, false, false, false⟩, steps := 1 }) := by rfl

/-- V9: LDA C050. -/
theorem test_v9_lda_c050 : vector 0x1000#16 [0x3A#8, 0x50#8, 0xC0#8] (fun s => s |>.write 0xC050#16 0x96#8)
    (fun s => { s with regs := { s.regs with a := 0x96#8 }, pc := 0x1003#16, flags := ⟨false, false, false, false, false⟩, steps := 1 }) := by rfl

/-- V10: STA FFFF. -/
theorem test_v10_sta_ffff : vector 0x1000#16 [0x32#8, 0xFF#8, 0xFF#8] (fun s => { s with regs := { s.regs with a := 0x42#8 } })
    (fun s => ({ s with pc := 0x1003#16, flags := ⟨false, false, false, false, false⟩, steps := 1 } : State) |>.write 0xFFFF#16 0x42#8) := by rfl

/-- V11: LHLD FFFF. -/
theorem test_v11_lhld_ffff : vector 0x1000#16 [0x2A#8, 0xFF#8, 0xFF#8] (fun s => s |>.write 0xFFFF#16 0x34#8 |>.write 0x0000#16 0x12#8)
    (fun s => { s with regs := { s.regs with h := 0x12#8, l := 0x34#8 }, pc := 0x1003#16, flags := ⟨false, false, false, false, false⟩, steps := 1 }) := by rfl

/-- V12: SHLD C052. -/
theorem test_v12_shld_c052 : vector 0x1000#16 [0x22#8, 0x52#8, 0xC0#8] (fun s => { s with regs := { s.regs with h := 0xEB#8, l := 0x2C#8 } })
    (fun s => ({ s with pc := 0x1003#16, flags := ⟨false, false, false, false, false⟩, steps := 1 } : State) |>.write 0xC052#16 0x2C#8 |>.write 0xC053#16 0xEB#8) := by rfl

/-- V13: LDAX D. -/
theorem test_v13_ldax_d : vector 0x1000#16 [0x1A#8] (fun s => ({ s with regs := { s.regs with d := 0x20#8, e := 0x10#8 } } : State) |>.write 0x2010#16 0xAB#8)
    (fun s => { s with regs := { s.regs with a := 0xAB#8 }, pc := 0x1001#16, flags := ⟨false, false, false, false, false⟩, steps := 1 }) := by rfl

/-- V14: STAX B. -/
theorem test_v14_stax_b : vector 0x1000#16 [0x02#8] (fun s => { s with regs := { s.regs with a := 0x99#8, b := 0x40#8, c := 0x01#8 } })
    (fun s => ({ s with pc := 0x1001#16, flags := ⟨false, false, false, false, false⟩, steps := 1 } : State) |>.write 0x4001#16 0x99#8) := by rfl

/-- V15: XCHG. -/
theorem test_v15_xchg : vector 0x1000#16 [0xEB#8] (fun s => { s with regs := { s.regs with d := 0x12#8, e := 0x34#8, h := 0x56#8, l := 0x78#8 } })
    (fun s => { s with regs := { s.regs with d := 0x56#8, e := 0x78#8, h := 0x12#8, l := 0x34#8 }, pc := 0x1001#16, flags := ⟨false, false, false, false, false⟩, steps := 1 }) := by rfl

/-- V20: ADD B. -/
theorem test_v20_add_b : vector 0x1000#16 [0x80#8] (fun s => { s with regs := { s.regs with a := 0x80#8, b := 0x80#8 } })
    (fun s => { s with regs := { s.regs with a := 0x00#8 }, pc := 0x1001#16, flags := ⟨false, true, false, true, true⟩, steps := 1 }) := by rfl

/-- V22: ADI FF. -/
theorem test_v22_adi_ff : vector 0x1000#16 [0xC6#8, 0xFF#8] (fun s => { s with regs := { s.regs with a := 0x01#8 } })
    (fun s => { s with regs := { s.regs with a := 0x00#8 }, pc := 0x1002#16, flags := ⟨false, true, true, true, true⟩, steps := 1 }) := by rfl

/-- V23: ADC B. -/
theorem test_v23_adc_b : vector 0x1000#16 [0x88#8] (fun s => { s with regs := { s.regs with a := 0xFF#8, b := 0x00#8 }, flags := { s.flags with cy := true } })
    (fun s => { s with regs := { s.regs with a := 0x00#8 }, pc := 0x1001#16, flags := ⟨false, true, true, true, true⟩, steps := 1 }) := by rfl

/-- V24: ADC M. -/
theorem test_v24_adc_m : vector 0x1000#16 [0x8E#8] (fun s => ({ s with regs := { s.regs with a := 0x0E#8, h := 0x20#8, l := 0x00#8 }, flags := { s.flags with cy := true } } : State) |>.write 0x2000#16 0x01#8)
    (fun s => { s with regs := { s.regs with a := 0x10#8 }, pc := 0x1001#16, flags := ⟨false, false, true, false, false⟩, steps := 1 }) := by rfl

/-- V25: ACI 7F. -/
theorem test_v25_aci_7f : vector 0x1000#16 [0xCE#8, 0x7F#8] (fun s => { s with regs := { s.regs with a := 0x00#8 }, flags := { s.flags with cy := true } })
    (fun s => { s with regs := { s.regs with a := 0x80#8 }, pc := 0x1002#16, flags := ⟨true, false, true, false, false⟩, steps := 1 }) := by rfl

/-- V27: SUB C. -/
theorem test_v27_sub_c : vector 0x1000#16 [0x91#8] (fun s => { s with regs := { s.regs with a := 0x00#8, c := 0x01#8 } })
    (fun s => { s with regs := { s.regs with a := 0xFF#8 }, pc := 0x1001#16, flags := ⟨true, false, true, true, true⟩, steps := 1 }) := by rfl

/-- V28: SUI 80. -/
theorem test_v28_sui_80 : vector 0x1000#16 [0xD6#8, 0x80#8] (fun s => { s with regs := { s.regs with a := 0x7F#8 } })
    (fun s => { s with regs := { s.regs with a := 0xFF#8 }, pc := 0x1002#16, flags := ⟨true, false, false, true, true⟩, steps := 1 }) := by rfl

/-- V29: SBB B. -/
theorem test_v29_sbb_b : vector 0x1000#16 [0x98#8] (fun s => { s with regs := { s.regs with a := 0x10#8, b := 0x0F#8 }, flags := { s.flags with cy := true } })
    (fun s => { s with regs := { s.regs with a := 0x00#8 }, pc := 0x1001#16, flags := ⟨false, true, true, true, false⟩, steps := 1 }) := by rfl

/-- V31: SBI 00. -/
theorem test_v31_sbi_00 : vector 0x1000#16 [0xDE#8, 0x00#8] (fun s => { s with regs := { s.regs with a := 0x00#8 }, flags := { s.flags with cy := true } })
    (fun s => { s with regs := { s.regs with a := 0xFF#8 }, pc := 0x1002#16, flags := ⟨true, false, true, true, true⟩, steps := 1 }) := by rfl

/-- V32: INR A. -/
theorem test_v32_inr_a : vector 0x1000#16 [0x3C#8] (fun s => { s with regs := { s.regs with a := 0xFF#8 } })
    (fun s => { s with regs := { s.regs with a := 0x00#8 }, pc := 0x1001#16, flags := ⟨false, true, true, true, false⟩, steps := 1 }) := by rfl

/-- V33: INR B. -/
theorem test_v33_inr_b : vector 0x1000#16 [0x04#8] (fun s => { s with regs := { s.regs with b := 0x0F#8 }, flags := { s.flags with cy := true } })
    (fun s => { s with regs := { s.regs with b := 0x10#8 }, pc := 0x1001#16, flags := ⟨false, false, true, false, true⟩, steps := 1 }) := by rfl

/-- V34: INR M. -/
theorem test_v34_inr_m : vector 0x1000#16 [0x34#8] (fun s => ({ s with regs := { s.regs with h := 0x20#8, l := 0x00#8 }, flags := { s.flags with cy := true } } : State) |>.write 0x2000#16 0xFF#8)
    (fun s => ({ s with pc := 0x1001#16, flags := ⟨false, true, true, true, true⟩, steps := 1 } : State) |>.write 0x2000#16 0x00#8) := by rfl

/-- V35: DCR C. -/
theorem test_v35_dcr_c : vector 0x1000#16 [0x0D#8] (fun s => { s with regs := { s.regs with c := 0x00#8 } })
    (fun s => { s with regs := { s.regs with c := 0xFF#8 }, pc := 0x1001#16, flags := ⟨true, false, true, true, false⟩, steps := 1 }) := by rfl

/-- V37: DCR M. -/
theorem test_v37_dcr_m : vector 0x1000#16 [0x35#8] (fun s => ({ s with regs := { s.regs with h := 0x20#8, l := 0x00#8 } } : State) |>.write 0x2000#16 0x80#8)
    (fun s => ({ s with pc := 0x1001#16, flags := ⟨false, false, true, false, false⟩, steps := 1 } : State) |>.write 0x2000#16 0x7F#8) := by rfl

/-- V38: INX H. -/
theorem test_v38_inx_h : vector 0x1000#16 [0x23#8] (fun s => { s with regs := { s.regs with h := 0xFF#8, l := 0xFF#8 } })
    (fun s => { s with regs := { s.regs with h := 0x00#8, l := 0x00#8 }, pc := 0x1001#16, flags := ⟨false, false, false, false, false⟩, steps := 1 }) := by rfl

/-- V39: INX SP. -/
theorem test_v39_inx_sp : vector 0x1000#16 [0x33#8] (fun s => { s with sp := 0x00FF#16 })
    (fun s => { s with pc := 0x1001#16, sp := 0x0100#16, flags := ⟨false, false, false, false, false⟩, steps := 1 }) := by rfl

/-- V40: DCX B. -/
theorem test_v40_dcx_b : vector 0x1000#16 [0x0B#8] (fun s => { s with regs := { s.regs with b := 0x00#8, c := 0x00#8 } })
    (fun s => { s with regs := { s.regs with b := 0xFF#8, c := 0xFF#8 }, pc := 0x1001#16, flags := ⟨false, false, false, false, false⟩, steps := 1 }) := by rfl

/-- V42: DAD H. -/
theorem test_v42_dad_h : vector 0x1000#16 [0x29#8] (fun s => { s with regs := { s.regs with h := 0x80#8, l := 0x00#8 } })
    (fun s => { s with regs := { s.regs with h := 0x00#8 }, pc := 0x1001#16, flags := ⟨false, false, false, false, true⟩, steps := 1 }) := by rfl

/-- V43: DAD B. -/
theorem test_v43_dad_b : vector 0x1000#16 [0x09#8] (fun s => { s with regs := { s.regs with b := 0x00#8, c := 0x01#8, h := 0x7F#8, l := 0xFF#8 }, flags := { s.flags with cy := true, z := true } })
    (fun s => { s with regs := { s.regs with h := 0x80#8, l := 0x00#8 }, pc := 0x1001#16, flags := ⟨false, true, false, false, false⟩, steps := 1 }) := by rfl

/-- V44: DAD SP. -/
theorem test_v44_dad_sp : vector 0x1000#16 [0x39#8] (fun s => { s with regs := { s.regs with h := 0x00#8, l := 0x01#8 }, sp := 0xFFFF#16 })
    (fun s => { s with regs := { s.regs with l := 0x00#8 }, pc := 0x1001#16, flags := ⟨false, false, false, false, true⟩, steps := 1 }) := by rfl

/-- V45: DAA. -/
theorem test_v45_daa : vector 0x1000#16 [0x27#8] (fun s => { s with regs := { s.regs with a := 0x9B#8 } })
    (fun s => { s with regs := { s.regs with a := 0x01#8 }, pc := 0x1001#16, flags := ⟨false, false, true, false, true⟩, steps := 1 }) := by rfl

/-- V47: DAA. -/
theorem test_v47_daa : vector 0x1000#16 [0x27#8] (fun s => { s with regs := { s.regs with a := 0x15#8 }, flags := { s.flags with ac := true } })
    (fun s => { s with regs := { s.regs with a := 0x1B#8 }, pc := 0x1001#16, flags := ⟨false, false, false, true, false⟩, steps := 1 }) := by rfl

/-- V60: ANA B. -/
theorem test_v60_ana_b : vector 0x1000#16 [0xA0#8] (fun s => { s with regs := { s.regs with a := 0xF0#8, b := 0x0F#8 }, flags := { s.flags with cy := true, ac := true } })
    (fun s => { s with regs := { s.regs with a := 0x00#8 }, pc := 0x1001#16, flags := ⟨false, true, false, true, false⟩, steps := 1 }) := by rfl

/-- V61: ANA M. -/
theorem test_v61_ana_m : vector 0x1000#16 [0xA6#8] (fun s => ({ s with regs := { s.regs with a := 0xFF#8, h := 0x20#8, l := 0x00#8 } } : State) |>.write 0x2000#16 0x81#8)
    (fun s => { s with regs := { s.regs with a := 0x81#8 }, pc := 0x1001#16, flags := ⟨true, false, false, true, false⟩, steps := 1 }) := by rfl

/-- V62: ANI 3C. -/
theorem test_v62_ani_3c : vector 0x1000#16 [0xE6#8, 0x3C#8] (fun s => { s with regs := { s.regs with a := 0xF0#8 }, params := ⟨none, true⟩ })
    (fun s => { s with regs := { s.regs with a := 0x30#8 }, pc := 0x1002#16, flags := ⟨false, false, true, true, false⟩, steps := 1 }) := by rfl

/-- V64: XRA M. -/
theorem test_v64_xra_m : vector 0x1000#16 [0xAE#8] (fun s => ({ s with regs := { s.regs with a := 0x0F#8, h := 0x20#8, l := 0x00#8 } } : State) |>.write 0x2000#16 0xFF#8)
    (fun s => { s with regs := { s.regs with a := 0xF0#8 }, pc := 0x1001#16, flags := ⟨true, false, false, true, false⟩, steps := 1 }) := by rfl

/-- V66: ORA B. -/
theorem test_v66_ora_b : vector 0x1000#16 [0xB0#8] (fun s => { s with regs := { s.regs with a := 0x00#8, b := 0x00#8 }, flags := { s.flags with cy := true } })
    (fun s => { s with pc := 0x1001#16, flags := ⟨false, true, false, true, false⟩, steps := 1 }) := by rfl

/-- V67: ORA M. -/
theorem test_v67_ora_m : vector 0x1000#16 [0xB6#8] (fun s => ({ s with regs := { s.regs with a := 0x10#8, h := 0x20#8, l := 0x00#8 } } : State) |>.write 0x2000#16 0x01#8)
    (fun s => { s with regs := { s.regs with a := 0x11#8 }, pc := 0x1001#16, flags := ⟨false, false, false, true, false⟩, steps := 1 }) := by rfl

/-- V69: CMP B. -/
theorem test_v69_cmp_b : vector 0x1000#16 [0xB8#8] (fun s => { s with regs := { s.regs with a := 0x05#8, b := 0x05#8 } })
    (fun s => { s with pc := 0x1001#16, flags := ⟨false, true, false, true, false⟩, steps := 1 }) := by rfl

/-- V70: CMP C. -/
theorem test_v70_cmp_c : vector 0x1000#16 [0xB9#8] (fun s => { s with regs := { s.regs with a := 0x04#8, c := 0x05#8 } })
    (fun s => { s with pc := 0x1001#16, flags := ⟨true, false, true, true, true⟩, steps := 1 }) := by rfl

/-- V71: CMP M. -/
theorem test_v71_cmp_m : vector 0x1000#16 [0xBE#8] (fun s => ({ s with regs := { s.regs with a := 0x10#8, h := 0x20#8, l := 0x00#8 } } : State) |>.write 0x2000#16 0x01#8)
    (fun s => { s with pc := 0x1001#16, flags := ⟨false, false, true, true, false⟩, steps := 1 }) := by rfl

/-- V72: CPI FF. -/
theorem test_v72_cpi_ff : vector 0x1000#16 [0xFE#8, 0xFF#8] (fun s => { s with regs := { s.regs with a := 0x00#8 } })
    (fun s => { s with pc := 0x1002#16, flags := ⟨false, false, true, false, true⟩, steps := 1 }) := by rfl

/-- V73: RLC. -/
theorem test_v73_rlc : vector 0x1000#16 [0x07#8] (fun s => { s with regs := { s.regs with a := 0x80#8 } })
    (fun s => { s with regs := { s.regs with a := 0x01#8 }, pc := 0x1001#16, flags := ⟨false, false, false, false, true⟩, steps := 1 }) := by rfl

/-- V74: RRC. -/
theorem test_v74_rrc : vector 0x1000#16 [0x0F#8] (fun s => { s with regs := { s.regs with a := 0x01#8 }, flags := { s.flags with z := true } })
    (fun s => { s with regs := { s.regs with a := 0x80#8 }, pc := 0x1001#16, flags := ⟨false, true, false, false, true⟩, steps := 1 }) := by rfl

/-- V75: RAL. -/
theorem test_v75_ral : vector 0x1000#16 [0x17#8] (fun s => { s with regs := { s.regs with a := 0x80#8 } })
    (fun s => { s with regs := { s.regs with a := 0x00#8 }, pc := 0x1001#16, flags := ⟨false, false, false, false, true⟩, steps := 1 }) := by rfl

/-- V76: RAL. -/
theorem test_v76_ral : vector 0x1000#16 [0x17#8] (fun s => { s with regs := { s.regs with a := 0x01#8 }, flags := { s.flags with cy := true } })
    (fun s => { s with regs := { s.regs with a := 0x03#8 }, pc := 0x1001#16, flags := ⟨false, false, false, false, false⟩, steps := 1 }) := by rfl

/-- V77: RAR. -/
theorem test_v77_rar : vector 0x1000#16 [0x1F#8] (fun s => { s with regs := { s.regs with a := 0x01#8 } })
    (fun s => { s with regs := { s.regs with a := 0x00#8 }, pc := 0x1001#16, flags := ⟨false, false, false, false, true⟩, steps := 1 }) := by rfl

/-- V78: RAR. -/
theorem test_v78_rar : vector 0x1000#16 [0x1F#8] (fun s => { s with regs := { s.regs with a := 0x00#8 }, flags := { s.flags with cy := true } })
    (fun s => { s with regs := { s.regs with a := 0x80#8 }, pc := 0x1001#16, flags := ⟨false, false, false, false, false⟩, steps := 1 }) := by rfl

/-- V79: CMA. -/
theorem test_v79_cma : vector 0x1000#16 [0x2F#8] (fun s => { s with regs := { s.regs with a := 0x51#8 }, flags := { s.flags with cy := true, z := true } })
    (fun s => { s with regs := { s.regs with a := 0xAE#8 }, pc := 0x1001#16, flags := ⟨false, true, false, false, true⟩, steps := 1 }) := by rfl

/-- V80: CMC. -/
theorem test_v80_cmc : vector 0x1000#16 [0x3F#8] (fun s => { s with flags := { s.flags with cy := true } })
    (fun s => { s with pc := 0x1001#16, flags := ⟨false, false, false, false, false⟩, steps := 1 }) := by rfl

/-- V82: STC. -/
theorem test_v82_stc : vector 0x1000#16 [0x37#8] (fun s => { s with flags := { s.flags with cy := true } })
    (fun s => { s with pc := 0x1001#16, flags := ⟨false, false, false, false, true⟩, steps := 1 }) := by rfl

/-- V90: JMP 2050. -/
theorem test_v90_jmp_2050 : vector 0x1000#16 [0xC3#8, 0x50#8, 0x20#8] (fun s => s)
    (fun s => { s with pc := 0x2050#16, flags := ⟨false, false, false, false, false⟩, steps := 1 }) := by rfl

/-- V91: JZ 2050. -/
theorem test_v91_jz_2050 : vector 0x1000#16 [0xCA#8, 0x50#8, 0x20#8] (fun s => { s with flags := { s.flags with z := true } })
    (fun s => { s with pc := 0x2050#16, flags := ⟨false, true, false, false, false⟩, steps := 1 }) := by rfl

/-- V92: JZ 2050. -/
theorem test_v92_jz_2050 : vector 0x1000#16 [0xCA#8, 0x50#8, 0x20#8] (fun s => s)
    (fun s => { s with pc := 0x1003#16, flags := ⟨false, false, false, false, false⟩, steps := 1 }) := by rfl

/-- V93: JNC 2050. -/
theorem test_v93_jnc_2050 : vector 0x1000#16 [0xD2#8, 0x50#8, 0x20#8] (fun s => s)
    (fun s => { s with pc := 0x2050#16, flags := ⟨false, false, false, false, false⟩, steps := 1 }) := by rfl

/-- V94: JPO 2050. -/
theorem test_v94_jpo_2050 : vector 0x1000#16 [0xE2#8, 0x50#8, 0x20#8] (fun s => s)
    (fun s => { s with pc := 0x2050#16, flags := ⟨false, false, false, false, false⟩, steps := 1 }) := by rfl

/-- V96: JM 2050. -/
theorem test_v96_jm_2050 : vector 0x1000#16 [0xFA#8, 0x50#8, 0x20#8] (fun s => { s with flags := { s.flags with s := true } })
    (fun s => { s with pc := 0x2050#16, flags := ⟨true, false, false, false, false⟩, steps := 1 }) := by rfl

/-- V98: CALL 2050. -/
theorem test_v98_call_2050 : vector 0x2000#16 [0xCD#8, 0x50#8, 0x20#8] (fun s => { s with sp := 0x3000#16 })
    (fun s => ({ s with pc := 0x2050#16, sp := 0x2FFE#16, flags := ⟨false, false, false, false, false⟩, steps := 1 } : State) |>.write 0x2FFE#16 0x03#8 |>.write 0x2FFF#16 0x20#8) := by rfl

/-- V99: CALL 1234. -/
theorem test_v99_call_1234 : vector 0xFFFE#16 [0xCD#8, 0x34#8, 0x12#8] (fun s => { s with sp := 0x3000#16 })
    (fun s => ({ s with pc := 0x1234#16, sp := 0x2FFE#16, flags := ⟨false, false, false, false, false⟩, steps := 1 } : State) |>.write 0x2FFE#16 0x01#8) := by rfl

/-- V100: CC 2050. -/
theorem test_v100_cc_2050 : vector 0x1000#16 [0xDC#8, 0x50#8, 0x20#8] (fun s => { s with sp := 0x3000#16 })
    (fun s => { s with pc := 0x1003#16, flags := ⟨false, false, false, false, false⟩, steps := 1 }) := by rfl

/-- V101: CPE 2050. -/
theorem test_v101_cpe_2050 : vector 0x1000#16 [0xEC#8, 0x50#8, 0x20#8] (fun s => { s with sp := 0x3000#16, flags := { s.flags with p := true } })
    (fun s => ({ s with pc := 0x2050#16, sp := 0x2FFE#16, flags := ⟨false, false, false, true, false⟩, steps := 1 } : State) |>.write 0x2FFE#16 0x03#8 |>.write 0x2FFF#16 0x10#8) := by rfl

/-- V102: RET. -/
theorem test_v102_ret : vector 0x1000#16 [0xC9#8] (fun s => ({ s with sp := 0x2FFE#16 } : State) |>.write 0x2FFE#16 0x03#8 |>.write 0x2FFF#16 0x20#8)
    (fun s => { s with pc := 0x2003#16, sp := 0x3000#16, flags := ⟨false, false, false, false, false⟩, steps := 1 }) := by rfl

/-- V103: RET. -/
theorem test_v103_ret : vector 0x1000#16 [0xC9#8] (fun s => ({ s with sp := 0xFFFF#16 } : State) |>.write 0xFFFF#16 0x34#8 |>.write 0x0000#16 0x12#8)
    (fun s => { s with pc := 0x1234#16, sp := 0x0001#16, flags := ⟨false, false, false, false, false⟩, steps := 1 }) := by rfl

/-- V104: RNZ. -/
theorem test_v104_rnz : vector 0x1000#16 [0xC0#8] (fun s => { s with sp := 0x2FFE#16, flags := { s.flags with z := true } })
    (fun s => { s with pc := 0x1001#16, flags := ⟨false, true, false, false, false⟩, steps := 1 }) := by rfl

/-- V105: RM. -/
theorem test_v105_rm : vector 0x1000#16 [0xF8#8] (fun s => ({ s with sp := 0x2FFE#16, flags := { s.flags with s := true } } : State) |>.write 0x2FFE#16 0x00#8 |>.write 0x2FFF#16 0x40#8)
    (fun s => { s with pc := 0x4000#16, sp := 0x3000#16, flags := ⟨true, false, false, false, false⟩, steps := 1 }) := by rfl

/-- V106: RST 0. -/
theorem test_v106_rst_0 : vector 0x0100#16 [0xC7#8] (fun s => { s with sp := 0x3000#16 })
    (fun s => ({ s with pc := 0x0000#16, sp := 0x2FFE#16, flags := ⟨false, false, false, false, false⟩, steps := 1 } : State) |>.write 0x2FFE#16 0x01#8 |>.write 0x2FFF#16 0x01#8) := by rfl

/-- V107: RST 5. -/
theorem test_v107_rst_5 : vector 0x0100#16 [0xEF#8] (fun s => { s with sp := 0x3000#16 })
    (fun s => ({ s with pc := 0x0028#16, sp := 0x2FFE#16, flags := ⟨false, false, false, false, false⟩, steps := 1 } : State) |>.write 0x2FFE#16 0x01#8 |>.write 0x2FFF#16 0x01#8) := by rfl

/-- V108: PCHL. -/
theorem test_v108_pchl : vector 0x1000#16 [0xE9#8] (fun s => { s with regs := { s.regs with h := 0xC0#8, l := 0x00#8 } })
    (fun s => { s with pc := 0xC000#16, flags := ⟨false, false, false, false, false⟩, steps := 1 }) := by rfl

/-- V120: PUSH B. -/
theorem test_v120_push_b : vector 0x1000#16 [0xC5#8] (fun s => { s with regs := { s.regs with b := 0x12#8, c := 0x34#8 }, sp := 0x3000#16 })
    (fun s => ({ s with pc := 0x1001#16, sp := 0x2FFE#16, flags := ⟨false, false, false, false, false⟩, steps := 1 } : State) |>.write 0x2FFE#16 0x34#8 |>.write 0x2FFF#16 0x12#8) := by rfl

/-- V121: PUSH H. -/
theorem test_v121_push_h : vector 0x1000#16 [0xE5#8] (fun s => { s with regs := { s.regs with h := 0xAB#8, l := 0xCD#8 }, sp := 0x0001#16 })
    (fun s => ({ s with pc := 0x1001#16, sp := 0xFFFF#16, flags := ⟨false, false, false, false, false⟩, steps := 1 } : State) |>.write 0x0000#16 0xAB#8 |>.write 0xFFFF#16 0xCD#8) := by rfl

/-- V123: PUSH PSW, the operation of its meaning with the draw PswFill = 111. -/
theorem test_v123_push_psw : vectorOf 0x1000#16 [0xF5#8] (fun s => { s with regs := { s.regs with a := 0xFF#8 }, sp := 0x3000#16, flags := { s.flags with s := true, z := true, ac := true, p := true, cy := true } }) (fun s => ((s.advance .pushPsw).pushPswWith 0b111#3).retire)
    (fun s => ({ s with pc := 0x1001#16, sp := 0x2FFE#16, flags := ⟨true, true, true, true, true⟩, steps := 1 } : State) |>.write 0x2FFE#16 0xFF#8 |>.write 0x2FFF#16 0xFF#8) := by rfl

/-- V124: POP D. -/
theorem test_v124_pop_d : vector 0x1000#16 [0xD1#8] (fun s => ({ s with sp := 0x2FFE#16 } : State) |>.write 0x2FFE#16 0x34#8 |>.write 0x2FFF#16 0x12#8)
    (fun s => { s with regs := { s.regs with d := 0x12#8, e := 0x34#8 }, pc := 0x1001#16, sp := 0x3000#16, flags := ⟨false, false, false, false, false⟩, steps := 1 }) := by rfl

/-- V125: POP PSW. -/
theorem test_v125_pop_psw : vector 0x1000#16 [0xF1#8] (fun s => ({ s with sp := 0x2FFE#16, flags := { s.flags with s := true, z := true, ac := true, p := true, cy := true } } : State) |>.write 0x2FFE#16 0x00#8 |>.write 0x2FFF#16 0x80#8)
    (fun s => { s with regs := { s.regs with a := 0x80#8 }, pc := 0x1001#16, sp := 0x3000#16, flags := ⟨false, false, false, false, false⟩, steps := 1 }) := by rfl

/-- V126: POP PSW. -/
theorem test_v126_pop_psw : vector 0x1000#16 [0xF1#8] (fun s => ({ s with sp := 0x2FFE#16 } : State) |>.write 0x2FFE#16 0xD5#8 |>.write 0x2FFF#16 0x01#8)
    (fun s => { s with regs := { s.regs with a := 0x01#8 }, pc := 0x1001#16, sp := 0x3000#16, flags := ⟨true, true, true, true, true⟩, steps := 1 }) := by rfl

/-- V127: POP B. -/
theorem test_v127_pop_b : vector 0x1000#16 [0xC1#8] (fun s => ({ s with sp := 0xFFFF#16 } : State) |>.write 0xFFFF#16 0x11#8 |>.write 0x0000#16 0x22#8)
    (fun s => { s with regs := { s.regs with b := 0x22#8, c := 0x11#8 }, pc := 0x1001#16, sp := 0x0001#16, flags := ⟨false, false, false, false, false⟩, steps := 1 }) := by rfl

/-- V128: XTHL. -/
theorem test_v128_xthl : vector 0x1000#16 [0xE3#8] (fun s => ({ s with regs := { s.regs with h := 0x12#8, l := 0x34#8 }, sp := 0x3000#16 } : State) |>.write 0x3000#16 0x78#8 |>.write 0x3001#16 0x56#8)
    (fun s => ({ s with regs := { s.regs with h := 0x56#8, l := 0x78#8 }, pc := 0x1001#16, flags := ⟨false, false, false, false, false⟩, steps := 1 } : State) |>.write 0x3000#16 0x34#8 |>.write 0x3001#16 0x12#8) := by rfl

/-- V129: SPHL. -/
theorem test_v129_sphl : vector 0x1000#16 [0xF9#8] (fun s => { s with regs := { s.regs with h := 0x40#8, l := 0x00#8 } })
    (fun s => { s with pc := 0x1001#16, sp := 0x4000#16, flags := ⟨false, false, false, false, false⟩, steps := 1 }) := by rfl

/-- V130: IN FF, the operation of its meaning with the draw IoRead(0xFF) = 0xC3. -/
theorem test_v130_in_ff : vectorOf 0x1000#16 [0xDB#8, 0xFF#8] (fun s => s) (fun s => ((s.advance (.inPort 0xFF#8)).inputByte 0xFF#8 0xC3#8).retire)
    (fun s => { s with regs := { s.regs with a := 0xC3#8 }, pc := 0x1002#16, flags := ⟨false, false, false, false, false⟩, trace := [.input 0xFF#8 0xC3#8], steps := 1 }) := by rfl

/-- V131: OUT 00. -/
theorem test_v131_out_00 : vector 0x1000#16 [0xD3#8, 0x00#8] (fun s => { s with regs := { s.regs with a := 0xA5#8 } })
    (fun s => { s with pc := 0x1002#16, flags := ⟨false, false, false, false, false⟩, trace := [.output 0x00#8 0xA5#8], steps := 1 }) := by rfl

/-- V132: EI. -/
theorem test_v132_ei : vector 0x1000#16 [0xFB#8] (fun s => s)
    (fun s => { s with pc := 0x1001#16, flags := ⟨false, false, false, false, false⟩, ctl := { s.ctl with inte := true }, steps := 1 }) := by rfl

/-- V133: DI. -/
theorem test_v133_di : vector 0x1000#16 [0xF3#8] (fun s => { s with ctl := { s.ctl with inte := true } })
    (fun s => { s with pc := 0x1001#16, flags := ⟨false, false, false, false, false⟩, ctl := { s.ctl with inte := false }, steps := 1 }) := by rfl

/-- V134: RIM, the operation of its meaning with the draw SidRead = 1. -/
theorem test_v134_rim : vectorOf 0x1000#16 [0x20#8] (fun s => { s with ctl := { s.ctl with inte := true, m75 := false, m65 := true, m55 := false } }) (fun s => ((s.advance .rim).regWrite .a (rimByte true s.ctl)).retire)
    (fun s => { s with regs := { s.regs with a := 0x8A#8 }, pc := 0x1001#16, flags := ⟨false, false, false, false, false⟩, steps := 1 }) := by rfl

/-- V136: SIM. -/
theorem test_v136_sim : vector 0x1000#16 [0x30#8] (fun s => { s with regs := { s.regs with a := 0x08#8 } })
    (fun s => { s with pc := 0x1001#16, flags := ⟨false, false, false, false, false⟩, ctl := { s.ctl with m55 := false, m65 := false, m75 := false }, steps := 1 }) := by rfl

/-- V138: SIM. -/
theorem test_v138_sim : vector 0x1000#16 [0x30#8] (fun s => { s with regs := { s.regs with a := 0x40#8 }, ctl := { s.ctl with sod := true } })
    (fun s => { s with pc := 0x1001#16, flags := ⟨false, false, false, false, false⟩, ctl := { s.ctl with sod := false }, steps := 1 }) := by rfl

/-- V140: NOP. -/
theorem test_v140_nop : vector 0x1000#16 [0x00#8] (fun s => { s with regs := { s.regs with a := 0x12#8 }, flags := { s.flags with cy := true } })
    (fun s => { s with pc := 0x1001#16, flags := ⟨false, false, false, false, true⟩, steps := 1 }) := by rfl

/-- V141: HLT. -/
theorem test_v141_hlt : vector 0x1000#16 [0x76#8] (fun s => s)
    (fun s => { s with pc := 0x1001#16, flags := ⟨false, false, false, false, false⟩, halted := true, steps := 1 }) := by rfl

/-- V160: (byte CB). -/
theorem test_v160_byte_cb : vector 0xFFFF#16 [0xCB#8] (fun s => { s with sp := 0x1234#16 })
    (fun s => { s with flags := ⟨false, false, false, false, false⟩, fault := some (.illegalOpcode 0xFFFF#16 0xCB#8) }) := by rfl

/-! ## Witnesses: for every obligation with hypotheses, a state and operands that meet them, one for each clause -/

/-- MovCopies…, MviLoads…, LxiLoads…, LdaAndLdax…, StaAndStax…, LhldAndShld…, XchgExchanges…: MOV, MVI, LXI, LDA, LDAX, STA, STAX, LHLD, SHLD, XCHG: a register and an M form, and the ends of the operand ranges. -/
theorem test_witness_data_transfer :
    Instr.form .movBC = .mov .b .c ∧ Reg8.b ≠ .m ∧ Instr.form .movAM = .mov .a .m ∧ Instr.form .movMH = .mov .m .h ∧
    Instr.form (.mviA 0xFF#8) = .mvi .a 0xFF#8 ∧ Instr.form (.mviM 0x00#8) = .mvi .m 0x00#8 ∧
    Instr.form (.lxiB 0xFFFF#16) = .lxi .bc (cat 0xFF#8 0xFF#8) ∧ Instr.form (.lxiD 0x00FF#16) = .lxi .de (cat 0x00#8 0xFF#8) ∧
    Instr.form (.lxiH 0xFF00#16) = .lxi .hl (cat 0xFF#8 0x00#8) ∧ Instr.form (.lxiSp 0x0000#16) = .lxi .sp (cat 0x00#8 0x00#8) ∧
    Instr.form (.lda 0xFFFF#16) = .lda 0xFFFF#16 ∧ Instr.form .ldaxB = .ldax .bc ∧ Instr.form .ldaxD = .ldax .de ∧
    Instr.form (.sta 0x0000#16) = .sta 0x0000#16 ∧ Instr.form .staxB = .stax .bc ∧ Instr.form .staxD = .stax .de ∧
    Instr.form (.lhld 0xFFFF#16) = .lhld 0xFFFF#16 ∧ Instr.form (.shld 0xFFFF#16) = .shld 0xFFFF#16 ∧
    Instr.form .xchg = .xchg := by decide

/-- The reset state with A, CY and the params `p`. -/
def aluState (a : Byte) (cy : Bool) (p : Params) : State :=
  { State.reset with regs := { State.reset.regs with a := a, c := 0x01#8 }, flags := { State.reset.flags with cy := cy }, params := p }

/-- AddAndAdcAddToTheAccumulator: an operand in a register, in memory and immediate; A = FF with 01 carries out of both nibbles. -/
theorem test_witness_add_adc : AluForm .addC (aluState 0xFF#8 false Params.hardware) .add 0x01#8 [0x81#8] ∧
    AluForm .adcM (aluState 0xFF#8 true Params.hardware) .adc 0x00#8 [0x8E#8] ∧
    AluForm (.adi 0xFF#8) (aluState 0x00#8 true Params.hardware) .add 0xFF#8 [0xC6#8, 0xFF#8] :=
  ⟨.reg .add .c rfl, .reg .adc .m rfl, .imm .add 0xFF#8 rfl⟩

/-- SubAndSbbSubtractFromTheAccumulator, CmpWritesTheFlagsOfTheDifference: A = 00 minus 01 borrows; 01 minus 01 is zero. -/
theorem test_witness_sub_sbb_cmp : AluForm .subC (aluState 0x00#8 false Params.hardware) .sub 0x01#8 [0x91#8] ∧
    AluForm (.sbi 0xFF#8) (aluState 0xFF#8 true Params.hardware) .sbb 0xFF#8 [0xDE#8, 0xFF#8] ∧
    AluForm .cmpC (aluState 0x01#8 true Params.hardware) .cmp 0x01#8 [0xB9#8] ∧
    AluForm (.cpi 0xFF#8) (aluState 0x00#8 true Params.hardware) .cmp 0xFF#8 [0xFE#8, 0xFF#8] :=
  ⟨.reg .sub .c rfl, .imm .sbb 0xFF#8 rfl, .reg .cmp .c rfl, .imm .cmp 0xFF#8 rfl⟩

/-- AnaAndsIntoTheAccumulator, XraAndOraCombineIntoTheAccumulator: ANA with AND_AC = 0 (the hardware's parameters) and 1; XRA and ORA. -/
theorem test_witness_ana_xra_ora : AluForm .anaC (aluState 0xFF#8 true Params.hardware) .ana 0x01#8 [0xA1#8] ∧
    (aluState 0xFF#8 true Params.hardware).params = Params.hardware ∧
    AluForm (.ani 0x0F#8) (aluState 0xFF#8 true ⟨none, true⟩) .ana 0x0F#8 [0xE6#8, 0x0F#8] ∧
    AluForm .xraC (aluState 0x01#8 true Params.hardware) .xra 0x01#8 [0xA9#8] ∧
    AluForm (.ori 0x80#8) (aluState 0x00#8 true Params.hardware) .ora 0x80#8 [0xF6#8, 0x80#8] :=
  ⟨.reg .ana .c rfl, rfl, .imm .ana 0x0F#8 rfl, .reg .xra .c rfl, .imm .ora 0x80#8 rfl⟩

/-- InrAndDcr…, InxAndDcx…, DadAdds…, DaaCorrects…, RotatesMove…, CmaCmcStc…: INR, DCR, INX, DCX, DAD, DAA, the rotates, CMA, CMC, STC: each clause's form. -/
theorem test_witness_arithmetic_and_rotates :
    Instr.form .inrB = .inr .b ∧ Instr.form .inrM = .inr .m ∧ Instr.form .dcrA = .dcr .a ∧ Instr.form .dcrM = .dcr .m ∧
    Instr.form .dcrA ≠ .inr .a ∧ Instr.form .inxH = .inx .hl ∧ Instr.form .inxSp = .inx .sp ∧ Instr.form .dcxB = .dcx .bc ∧
    Instr.form .dcxSp = .dcx .sp ∧ Instr.form .dcxSp ≠ .inx .sp ∧ Instr.form .dadB = .dad .bc ∧ Instr.form .dadH = .dad .hl ∧
    Instr.form .daa = .daa ∧ Instr.form .rlc = .rlc ∧ Instr.form .rrc = .rrc ∧ Instr.form .ral = .ral ∧ Instr.form .rar = .rar ∧
    Instr.form .cma = .cma ∧ Instr.form .cmc = .cmc ∧ Instr.form .stc = .stc := by decide

/-- DaaAfterAdditionIsDecimalAddition: DAA after ADD and ADC: 99 + 01 and 99 + 99 + 1, the top of the range. -/
theorem test_witness_bcd : AluForm .addC (aluState 0x99#8 false Params.hardware) .add 0x01#8 [0x81#8] ∧
    AluForm (.aci 0x99#8) (aluState 0x99#8 true Params.hardware) .adc 0x99#8 [0xCE#8, 0x99#8] ∧
    (0x99#8).toNat / 16 ≤ 9 ∧ (0x99#8).toNat % 16 ≤ 9 ∧ (0x01#8).toNat / 16 ≤ 9 ∧ (0x01#8).toNat % 16 ≤ 9 :=
  ⟨.reg .add .c rfl, .imm .adc 0x99#8 rfl, by decide⟩

/-- JumpsSetPc, CallAndRstPushThenJump, ConditionalCallPushesOnlyWhenTaken, ReturnsPopPc: each form, and flags for which a condition holds and fails. -/
theorem test_witness_branches :
    Instr.form (.jmp 0xFFFF#16) = .jmp 0xFFFF#16 ∧ Instr.form .pchl = .pchl ∧ Instr.form (.jz 0x0000#16) = .jcond .z 0x0000#16 ∧
    Instr.form (.call 0x1234#16) = .call 0x1234#16 ∧ Instr.form .rst0 = .rst 0 ∧ Instr.form .rst7 = .rst 7 ∧
    Instr.form (.cz 0x2050#16) = .ccond .z 0x2050#16 ∧ Instr.form .ret = .ret ∧ Instr.form .rz = .rcond .z ∧
    CondTrue .z ⟨false, true, false, false, false⟩ ∧ ¬CondTrue .z State.reset.flags := by
  simp [Instr.form, CondTrue, State.reset]

/-- PushStores…, PushPswStores…, PopLoads…, XthlExchanges…, InDraws…, EiAndDi…, RimReads…, SimWrites…, NopDoesNothing…, PushThenPop…: each form of each clause. -/
theorem test_witness_stack_io_control :
    Instr.form .pushB = .push .bc ∧ StackPair.bc ≠ .psw ∧ Instr.form .pushD = .push .de ∧ Instr.form .pushH = .push .hl ∧
    Instr.form .pushPsw = .push .psw ∧ Instr.form .popB = .pop .bc ∧ Instr.form .popD = .pop .de ∧ Instr.form .popH = .pop .hl ∧
    Instr.form .popPsw = .pop .psw ∧ Instr.form .xthl = .xthl ∧ Instr.form .sphl = .sphl ∧
    Instr.form (.inPort 0xFF#8) = .input 0xFF#8 ∧ Instr.form (.outPort 0x00#8) = .output 0x00#8 ∧ Instr.form .ei = .ei ∧
    Instr.form .di = .di ∧ Instr.form .rim = .rim ∧ Instr.form .sim = .sim ∧ Instr.form .nop = .nop ∧ Instr.form .hlt = .hlt := by
  decide

/-- SimWritesTheEnabledControlBits: a value of A with all three enables set and one with none. -/
theorem test_witness_sim : (0xDF#8).getLsbD 3 = true ∧ (0xDF#8).getLsbD 4 = true ∧ (0xDF#8).getLsbD 6 = true ∧
    (0xA7#8).getLsbD 3 = false ∧ (0xA7#8).getLsbD 4 = false ∧ (0xA7#8).getLsbD 6 = false := by decide

/-- NopDoesNothingAndHltHalts: a running state at HLT, at the top of memory. -/
theorem test_witness_hlt : (start 0xFFFF#16 [0x76#8]).Running ∧ (start 0xFFFF#16 [0x76#8]).read 0xFFFF#16 = 0x76#8 :=
  ⟨⟨rfl, rfl, rfl⟩, rfl⟩

/-- StepRunsTheDecodedInstruction: a running state whose three bytes wrap past the top of memory and decode to CALL 1234 (V99). -/
theorem test_witness_step : (start 0xFFFE#16 [0xCD#8, 0x34#8, 0x12#8]).Running ∧
    decode [(start 0xFFFE#16 [0xCD#8, 0x34#8, 0x12#8]).read 0xFFFE#16, (start 0xFFFE#16 [0xCD#8, 0x34#8, 0x12#8]).read 0xFFFF#16,
      (start 0xFFFE#16 [0xCD#8, 0x34#8, 0x12#8]).read 0x0000#16] = .ok (.call 0x1234#16) [] :=
  ⟨⟨rfl, rfl, rfl⟩, rfl⟩

/-- IllegalOpcodeStepOnlySetsFault: a running state at an illegal byte (V160). -/
theorem test_witness_illegal : (start 0xFFFF#16 [0xCB#8]).Running ∧
    (start 0xFFFF#16 [0xCB#8]).read 0xFFFF#16 ∈ [0x08#8, 0x10#8, 0x18#8, 0x28#8, 0x38#8, 0xCB#8, 0xD9#8, 0xDD#8, 0xED#8, 0xFD#8] :=
  ⟨⟨rfl, rfl, rfl⟩, by decide⟩

/-- The reset state with the step limit `n` and `k` steps taken. -/
def limited (n k : Nat) : State := { State.reset with params := ⟨some n, false⟩, steps := k }

/-- StepLimitStopsBeforeTheFetch: reached exactly (0 of 0, 5 of 5), not reached (4 of 5), and none. -/
theorem test_witness_step_limit :
    (limited 0 0).params.stepLimit = some 0 ∧ (limited 0 0).halted = false ∧ (limited 0 0).fault = none ∧ 0 ≤ (limited 0 0).steps ∧
    (limited 5 5).limitReached = true ∧ (limited 5 4).limitReached = false ∧ (limited 5 4).steps < 5 ∧
    step (limited 5 4) = .next { limited 5 4 with pc := 0x0001#16, steps := 5 } ∧ State.reset.params.stepLimit = none :=
  ⟨rfl, rfl, rfl, Nat.le_refl 0, rfl, rfl, by decide, rfl, rfl⟩

/-- OnlyTerminalStatesHaveNoStep: the terminal states, and running ones with a legal and an illegal byte. -/
theorem test_witness_terminal :
    ({ State.reset with fault := some (.illegalOpcode 0 0x08#8) } : State).fault = some (.illegalOpcode 0 0x08#8) ∧
    ({ State.reset with halted := true } : State).halted = true ∧ State.reset.fault = none ∧ State.reset.halted = false ∧
    State.reset.limitReached = false ∧ State.reset.read State.reset.pc ∉ illegalOpcodes ∧
    (start 0x1000#16 [0x08#8]).read 0x1000#16 ∈ illegalOpcodes := by decide

/-- EncodeInvertsDecode, LengthIsAFunctionOfTheOpcodeByte, EveryFormIsExactlyOneInstruction, AssemblerRoundTrip: bytes that decode, with bytes left over; two instructions with one opcode byte; forms that exist and do not. -/
theorem test_witness_encoding :
    decode [0x3E#8, 0xFF#8, 0x76#8] = .ok (.mviA 0xFF#8) [0x76#8] ∧
    (encode (.mviA 0x00#8)).head? = (encode (.mviA 0xFF#8)).head? ∧
    (decodeEntry 0xC3#8).fill 0xFF#8 0xFF#8 = some (.jmp 0xFFFF#16) ∧
    (Form.mov .m .a).wellFormed = true ∧ (Form.mov .m .m).wellFormed = false ∧ (Form.rst 7).wellFormed = true := by decide

/-- LoadProgramWritesUpToTheFirstError, AssemblerRoundTrip: lines that encode and one that does not. -/
theorem test_witness_lines :
    (loadProgram [['N', 'O', 'P'], ['H', 'L', 'T']] 0xFFFF#16 []).2 = none ∧ encodeLine ['R', 'S', 'T', ' ', '8'] = .error .invalidOperand ∧
    encodeLine ['R', 'S', 'T', ' ', '7'] = .ok [0xFF#8] := by decide

/-- MemoryIsCanonical: canonical memories, the empty one and one that lists the last cell. -/
theorem test_witness_memory : Memory.wf [] = true ∧ Memory.wf [(0xFFFF, 0xFF#8)] = true ∧ Memory.wf [(0x10000, 0xFF#8)] = false ∧
    Memory.wf [(0, 0x00#8)] = false ∧ Memory.wf [(1, 0x01#8), (0, 0x01#8)] = false := by decide

/-- ResetAndLaunchStartStates: a state that a hardware reset and a launch give. -/
theorem test_witness_reset_and_launch :
    ∃ (d : ResetDraws) (img : LaunchImage), (hardwareReset d State.reset).regs.a = 0xFF#8 ∧ (launch img 0xFFFF#16).pc = 0xFFFF#16 ∧
      (launch img 0xFFFF#16).ctl.m55 = false :=
  ⟨⟨⟨0xFF#8, 0, 0, 0, 0, 0, 0⟩, 0xFFFF#16, State.reset.flags, false, false, false, true⟩,
   ⟨[], State.reset.regs, 0, State.reset.flags, some true, some false, none, none, none, Params.hardware, 0⟩, rfl, rfl, rfl⟩

/-- EveryStepKeepsTheInvariant: the reset state at its limit of 0 steps meets the invariant, and its step raises the limit. -/
theorem test_witness_invariant : Inv (limited 0 0) ∧ step (limited 0 0) = .next { limited 0 0 with fault := some (.stepLimitExceeded 0) } :=
  ⟨⟨rfl, rfl, by decide, by simp [limited, State.reset], by simp [limited, State.reset], by simp [limited]⟩, rfl⟩

/-- The launch of `bytes` at `pc` with the parameters `p`. -/
def launched (pc : Word) (bytes : List Byte) (p : Params) : State :=
  launch ⟨Memory.writeBytes [] pc bytes, State.reset.regs, 0, State.reset.flags, none, none, none, none, none, p, 0⟩ pc

/-- ReachableStatesAreFinishedOrFailedNotBoth: a launch, a halted one, one with an illegal opcode, one with a step limit. -/
theorem test_witness_reachable :
    Reachable (launched 0x2000#16 [0x76#8] Params.hardware) ∧
    (∃ s, Reachable s ∧ s.halted = true) ∧ (∃ s, Reachable s ∧ s.fault = some (.illegalOpcode 0x2000#16 0x08#8)) ∧
    (∃ s, Reachable s ∧ s.params.stepLimit = some 1 ∧ s.steps = 1) := by
  have r (bytes : List Byte) (p : Params) (h : (Memory.writeBytes [] 0x2000#16 bytes).wf = true) :
      Reachable (launched 0x2000#16 bytes p) := .launched _ _ h
  exact ⟨r _ _ rfl, ⟨_, .stepped _ _ (r [0x76#8] Params.hardware rfl) rfl, rfl⟩,
    ⟨_, .stepped _ _ (r [0x08#8] Params.hardware rfl) rfl, rfl⟩,
    ⟨_, .stepped _ _ (r [0x00#8] ⟨some 1, false⟩ rfl) rfl, rfl, rfl⟩⟩

/-- OnlyTheListedInstructionsWriteEachFlag, …EachRegister, OnlyTheStoredCellsChange: an instruction outside each table, and a cell outside the stored ones. -/
theorem test_witness_writers :
    mayWriteCy (Instr.form .inrB) = false ∧ mayWriteZspAc (Instr.form .dadB) = false ∧ mayWriteReg (Instr.form .cmpB) .a = false ∧
    mayWriteReg (Instr.form .popPsw) .b = false ∧ mayWriteSp State.reset (Instr.form .rz) = false ∧
    mayWriteSp State.reset (Instr.form .rnz) = true ∧ 0x0001#16 ∉ storedCells State.reset (Instr.form .movMB) ∧
    0x0000#16 ∈ storedCells State.reset (Instr.form .movMB) ∧ storedCells State.reset (Instr.form (.cz 0#16)) = [] ∧
    exec .inrB State.reset = .next (State.reset.incReg .b) := ⟨rfl, rfl, rfl, rfl, rfl, rfl, by decide, by decide, rfl, rfl⟩

/-- OnlyControlInstructionsWriteTheControlState, ControlStateNeverInfluencesExecution: instructions that are none of those named, and a state whose fetch is none of them. -/
theorem test_witness_control :
    Instr.form .nop ≠ .rim ∧ Instr.form .nop ≠ .ei ∧ Instr.form .nop ≠ .di ∧ Instr.form .nop ≠ .sim ∧ Instr.form .nop ≠ .hlt ∧
    (∀ p, Instr.form .nop ≠ .input p ∧ Instr.form .nop ≠ .output p) ∧ exec .nop State.reset = .next State.reset ∧
    State.reset.fetch = some .nop ∧ step State.reset = .next { State.reset with pc := 0x0001#16, steps := 1 } ∧
    (start 0x1000#16 [0x30#8]).fetch = some .sim := by
  refine ⟨by decide, by decide, by decide, by decide, by decide, fun p => ⟨by simp [Instr.form], by simp [Instr.form]⟩, rfl, rfl, rfl, rfl⟩

end Sys2Proof.Tests
end

section
/-! SUPPORT. What every instruction can do to the control state, the flags, the registers and SP, each said once by the form, and the
statements of 10_state.md that follow. -/

namespace Sys2Proof.Machine

/-- The state an instruction answers is the effect of its form. -/
theorem eq_formEffect_of_exec {i : Instr} {s t : State} (h : exec i s = .next t) : t = formEffect i.form s :=
  (Host.Outcome.next.inj ((exec_eq i s).symm.trans h)).symm

/-! ## The control state (10_state.md sections 5 and 6) -/

/-- INTE, the masks, I75, SOD, `halted` and `trace` are in `t` as in `s`. -/
def SameControl (s t : State) : Prop := t.ctl = s.ctl ∧ t.halted = s.halted ∧ t.trace = s.trace

theorem sameControl_regWrite (s : State) (r : Reg8) (v : Byte) : SameControl s (s.regWrite r v) :=
  ⟨s.regWrite_ctl r v, s.regWrite_halted r v, s.regWrite_trace r v⟩

theorem sameControl_pairWrite (s : State) (p : RegPair) (w : Word) : SameControl s (s.pairWrite p w) :=
  ⟨s.pairWrite_ctl p w, s.pairWrite_halted p w, s.pairWrite_trace p w⟩

/-- The six forms that touch the control state are named; every other form leaves all of it. -/
theorem formEffect_control_cases (f : Form) (s : State) :
    f = .ei ∨ f = .di ∨ f = .sim ∨ f = .hlt ∨ (∃ p, f = .input p) ∨ (∃ p, f = .output p) ∨
      SameControl s (formEffect f s) := by
  cases f
  case ei | di | sim | hlt => simp
  case input port | output port => simp
  all_goals iterate 6 right
  case alu op src => cases op <;> exact ⟨rfl, rfl, rfl⟩
  case aluImm op d8 => cases op <;> exact ⟨rfl, rfl, rfl⟩
  case mov | mvi | inr | dcr => exact sameControl_regWrite _ _ _
  case lxi | inx | dcx => exact sameControl_pairWrite _ _ _
  case push rp => cases rp <;> exact ⟨rfl, rfl, rfl⟩
  case pop rp => cases rp <;> exact ⟨rfl, rfl, rfl⟩
  case jcond | ccond | rcond =>
    simp only [formEffect, State.jumpIf, State.callIf, State.returnIf]
    split <;> exact ⟨rfl, rfl, rfl⟩
  all_goals exact ⟨rfl, rfl, rfl⟩

/-- SIM never sets I75: it keeps it or clears it (R44, R293). -/
theorem simCtl_i75 {c : Ctl} (h : c.i75 = false) (a : Byte) : (simCtl a c).i75 = false := by
  simp [simCtl_eq, h]

/-- SIM leaves INTE alone (R293). -/
@[simp] theorem simCtl_inte (a : Byte) (c : Ctl) : (simCtl a c).inte = c.inte := by
  simp [simCtl_eq]

/-- I75 is stuck at 0 (R44): no instruction sets it. -/
theorem formEffect_i75 (f : Form) {s : State} (h : s.ctl.i75 = false) : (formEffect f s).ctl.i75 = false := by
  rcases formEffect_control_cases f s with rfl | rfl | rfl | rfl | ⟨p, rfl⟩ | ⟨p, rfl⟩ | ⟨hctl, -, -⟩
  · exact h
  · exact h
  · exact simCtl_i75 h _
  · exact h
  · exact h
  · exact h
  · rw [hctl, h]

/-- Which forms change INTE, the rest of the control bits, `halted` and `trace`. -/
theorem formEffect_control (f : Form) (s : State) :
    (f ≠ .ei → f ≠ .di → (formEffect f s).ctl.inte = s.ctl.inte) ∧
    (f ≠ .sim → (formEffect f s).ctl = { s.ctl with inte := (formEffect f s).ctl.inte }) ∧
    (f ≠ .hlt → (formEffect f s).halted = s.halted) ∧ (f = .hlt → (formEffect f s).halted = true) ∧
    (∃ ev, (formEffect f s).trace = s.trace ++ ev ∧ ((∀ p, f ≠ .input p ∧ f ≠ .output p) → ev = [])) := by
  have hquiet {P : Prop} : ∃ ev, s.trace = s.trace ++ ev ∧ (P → ev = []) := ⟨[], by simp, fun _ => rfl⟩
  rcases formEffect_control_cases f s with rfl | rfl | rfl | rfl | ⟨p, rfl⟩ | ⟨p, rfl⟩ | ⟨hctl, hhalted, htrace⟩
  · exact ⟨fun hne => absurd rfl hne, fun _ => rfl, fun _ => rfl, nofun, hquiet⟩
  · exact ⟨fun _ hne => absurd rfl hne, fun _ => rfl, fun _ => rfl, nofun, hquiet⟩
  · exact ⟨fun _ _ => simCtl_inte _ _, fun hne => absurd rfl hne, fun _ => rfl, nofun, hquiet⟩
  · exact ⟨fun _ _ => rfl, fun _ => rfl, fun hne => absurd rfl hne, fun _ => rfl, hquiet⟩
  · exact ⟨fun _ _ => rfl, fun _ => rfl, fun _ => rfl, nofun, ⟨_, rfl, fun hne => absurd rfl (hne p).1⟩⟩
  · exact ⟨fun _ _ => rfl, fun _ => rfl, fun _ => rfl, nofun, ⟨_, rfl, fun hne => absurd rfl (hne p).2⟩⟩
  · rw [hctl, htrace]
    exact ⟨fun _ _ => rfl, fun _ => rfl, fun _ => hhalted, fun hf => hf ▸ rfl, hquiet⟩

/-- Settles O54, from the six forms that touch the control state. -/
theorem onlyControlInstructionsWriteTheControlState : Obligations.OnlyControlInstructionsWriteTheControlState := by
  intro i s t h
  obtain rfl := eq_formEffect_of_exec h
  obtain ⟨hinte, hctl, hhalted, hhlt, htrace⟩ := formEffect_control i.form s
  exact ⟨hinte, hctl, hhalted, hhlt, htrace, formEffect_fault _ _, formEffect_steps _ _, formEffect_params _ _,
    formEffect_i75 _⟩

/-! ## The step limit -/

theorem limitReached_eq_true_iff {s : State} :
    s.limitReached = true ↔ ∃ n, s.params.stepLimit = some n ∧ n ≤ s.steps := by
  unfold State.limitReached
  cases s.params.stepLimit <;> simp

theorem limitReached_eq_false_iff {s : State} :
    s.limitReached = false ↔ ∀ n, s.params.stepLimit = some n → s.steps < n := by
  unfold State.limitReached
  cases s.params.stepLimit <;> simp

/-! ## The invariant -/

/-- A step at the limit keeps the invariant: the budget makes the limit equal to the step count (R143, R302). -/
theorem Inv.raiseStepLimit {s : State} (h : Inv s) (hh : s.halted = false) (hl : s.limitReached = true) :
    Inv s.raiseStepLimit where
  mem := h.mem
  i75 := h.i75
  exclusive hc := absurd (hh.symm.trans hc) Bool.false_ne_true
  illegal _ _ hr := by simp [State.raiseStepLimit] at hr
  limit n hr := by
    obtain rfl : s.steps = n := by simpa [State.raiseStepLimit] using hr
    obtain ⟨m, hm, hle⟩ := limitReached_eq_true_iff.mp hl
    obtain rfl : m = s.steps := Nat.le_antisymm hle (h.budget m hm)
    exact ⟨rfl, hm⟩
  budget := h.budget

/-- A step whose byte has no entry keeps the invariant: a fetch fails on the illegal bytes alone (R301). -/
theorem Inv.raiseIllegalOpcode {s : State} (h : Inv s) (hh : s.halted = false) (hi : s.fetch = none) :
    Inv s.raiseIllegalOpcode where
  mem := h.mem
  i75 := h.i75
  exclusive hc := absurd (hh.symm.trans hc) Bool.false_ne_true
  illegal pc op hr := by
    obtain ⟨rfl, rfl⟩ : s.pc = pc ∧ s.read s.pc = op := by simpa [State.raiseIllegalOpcode] using hr
    exact ⟨rfl, rfl, fetch_eq_none_iff.mp hi⟩
  limit _ hr := by simp [State.raiseIllegalOpcode] at hr
  budget := h.budget

/-- An executed and counted instruction keeps the invariant: it raises no fault (R309), and the count stays within a limit that was not
reached (R143). -/
theorem Inv.retire_formEffect {s : State} (h : Inv s) (hf : s.fault = none) (hl : s.limitReached = false) (i : Instr) :
    Inv (formEffect i.form (s.advance i)).retire := by
  have hfault : (formEffect i.form (s.advance i)).retire.fault = none := (formEffect_fault _ _).trans hf
  exact {
    mem := wf_formEffect (s := s.advance i) _ h.mem
    i75 := formEffect_i75 (s := s.advance i) _ h.i75
    exclusive := fun _ => hfault
    illegal := fun _ _ hr => nomatch hfault.symm.trans hr
    limit := fun _ hr => nomatch hfault.symm.trans hr
    budget := fun n hn => by
      have hlt : s.steps < n := limitReached_eq_false_iff.mp hl n (by simpa [State.advance] using hn)
      simpa [State.advance] using hlt }

/-- Settles O49, over the cases of a step. -/
theorem everyStepKeepsTheInvariant : Obligations.EveryStepKeepsTheInvariant := by
  intro s t hinv ht
  rcases step_cases s with ⟨r, -, hs⟩ | ⟨-, -, hs⟩ | ⟨-, hh, hl, hs⟩ | ⟨-, hh, -, hi, hs⟩ | ⟨i, hf, -, hl, -, hs⟩
  all_goals rw [hs] at ht
  case inl | inr.inl => cases ht
  all_goals obtain rfl := Host.Outcome.next.inj ht
  · exact hinv.raiseStepLimit hh hl
  · exact hinv.raiseIllegalOpcode hh hi
  · exact hinv.retire_formEffect hf hl i

/-! ## The flags (10_state.md section 4) -/

/-- What an instruction can do to the flags: write all of them, CY alone, all but CY (each only in a form whose columns of R42 say so), or
none. -/
theorem formEffect_flags_cases (f : Form) (s : State) :
    (mayWriteCy f = true ∧ mayWriteZspAc f = true) ∨
    (mayWriteCy f = true ∧ ∃ cy, (formEffect f s).flags = setCy cy s.flags) ∨
    (mayWriteZspAc f = true ∧ ∃ r ac, (formEffect f s).flags = setStep r ac s.flags) ∨
    (formEffect f s).flags = s.flags := by
  cases f
  case alu | aluImm | daa => exact .inl ⟨rfl, rfl⟩
  case dad | rlc | rrc | ral | rar | cmc | stc => exact .inr (.inl ⟨rfl, _, rfl⟩)
  case inr | dcr => exact .inr (.inr (.inl ⟨rfl, _, _, rfl⟩))
  case pop rp =>
    cases rp
    case psw => exact .inl ⟨rfl, rfl⟩
    all_goals exact .inr (.inr (.inr rfl))
  all_goals refine .inr (.inr (.inr ?_))
  case mov | mvi => exact State.regWrite_flags _ _ _
  case lxi | inx | dcx => exact State.pairWrite_flags _ _ _
  case push rp => cases rp <;> rfl
  case jcond | ccond | rcond =>
    simp only [formEffect, State.jumpIf, State.callIf, State.returnIf]
    split <;> rfl
  all_goals rfl

/-- Settles O51, over what an instruction can do to the flags. -/
theorem onlyTheListedInstructionsWriteEachFlag : Obligations.OnlyTheListedInstructionsWriteEachFlag := by
  intro i s t h
  obtain rfl := eq_formEffect_of_exec h
  rcases formEffect_flags_cases i.form s with ⟨hcy, hz⟩ | ⟨hcy, cy, hflags⟩ | ⟨hz, r, ac, hflags⟩ | hflags
  · simp [hcy, hz]
  · simp [hcy, hflags, setCy]
  · simp [hz, hflags, setStep, setZsp]
  · simp [hflags]

/-! ## The registers and SP (10_state.md section 2) -/

/-- A register other than M reads from the register file alone (R150). -/
theorem regRead_congr {s t : State} {x : Reg8} (hx : x ≠ .m) (h : t.regs = s.regs) : t.regRead x = s.regRead x := by
  cases x
  case m => exact absurd rfl hx
  all_goals simp only [State.regRead, h]

/-- A write to one operand leaves every register but that one (R151). -/
theorem regRead_regWrite_of_ne (s : State) {r x : Reg8} (hx : x ≠ .m) (hne : x ≠ r) (v : Byte) :
    (s.regWrite r v).regRead x = s.regRead x := by
  by_cases hr : r = .m
  · subst hr; exact regRead_congr hx rfl
  · rw [State.regRead_regWrite s hr hx, if_neg hne]

/-- A write to a pair leaves every register that is no half of it (R34, R152). -/
theorem regRead_pairWrite_of_not_half (s : State) {p : RegPair} {x : Reg8} (hx : x ≠ .m) (h : halfOf p x = false)
    (w : Word) : (s.pairWrite p w).regRead x = s.regRead x := by
  cases p <;> cases x
  case bc.m | de.m | hl.m | sp.m => exact absurd rfl hx
  case bc.b | bc.c | de.d | de.e | hl.h | hl.l => cases h
  all_goals rfl

/-- A write to a pair other than SP leaves SP (R152). -/
theorem pairWrite_sp_of_ne (s : State) {p : RegPair} (h : p ≠ .sp) (w : Word) : (s.pairWrite p w).sp = s.sp := by
  cases p
  case sp => exact absurd rfl h
  all_goals rfl

@[simp] theorem aluEffect_sp (op : AluOp) (x : Byte) (s : State) : (aluEffect op x s).sp = s.sp := by
  cases op <;> rfl

/-- An ALU operation writes no register but A, and a compare writes none (R106, R239). -/
theorem regRead_aluEffect (op : AluOp) (v : Byte) (s : State) {x : Reg8} (hx : x ≠ .m)
    (h : (x == .a && op != .cmp) = false) : (aluEffect op v s).regRead x = s.regRead x := by
  by_cases hop : op = .cmp
  · subst hop; exact regRead_congr hx rfl
  · have hne : x ≠ .a := by simpa [hop] using h
    cases op
    case cmp => exact absurd rfl hop
    all_goals exact regRead_regWrite_of_ne s hx hne _

/-- LHLD writes the pair HL (R188). -/
theorem loadHL_eq_pairWrite (s : State) (a : Word) : s.loadHL a = s.pairWrite .hl (s.read16 a) := by
  simp [State.loadHL, State.pairWrite, State.read16]

/-- XCHG writes the pairs DE and HL (R192). -/
theorem exchangeDeHl_eq_pairWrite (s : State) : s.exchangeDeHl = (s.pairWrite .de s.hl).pairWrite .hl s.de := by
  simp [State.exchangeDeHl, State.pairWrite, State.hl, State.de, State.setRegs]

/-- A register other than M changes only in the forms R36 lists for it. -/
theorem formEffect_regRead_of_mayWriteReg_eq_false (f : Form) (s : State) {x : Reg8} (hx : x ≠ .m)
    (h : mayWriteReg f x = false) :
    (formEffect f s).regRead x = s.regRead x := by
  cases f
  case mov | mvi | inr | dcr => exact regRead_regWrite_of_ne s hx (by simpa [mayWriteReg] using h) _
  case lda | ldax | daa | cma | rlc | rrc | ral | rar | input | rim =>
    exact regRead_regWrite_of_ne s hx (by simpa [mayWriteReg] using h) _
  case lxi | inx | dcx => exact regRead_pairWrite_of_not_half s hx h _
  case dad => exact regRead_pairWrite_of_not_half s (p := .hl) hx h _
  case lhld => rw [formEffect, loadHL_eq_pairWrite, regRead_pairWrite_of_not_half s (p := .hl) hx h]
  case xthl =>
    exact (regRead_pairWrite_of_not_half (p := .hl) _ hx h _).trans (regRead_congr hx (s.write16_regs s.sp s.hl))
  case xchg =>
    obtain ⟨hhl, hde⟩ := Bool.or_eq_false_iff.mp h
    rw [formEffect, exchangeDeHl_eq_pairWrite, regRead_pairWrite_of_not_half _ hx hhl,
      regRead_pairWrite_of_not_half _ hx hde]
  case alu | aluImm => exact regRead_aluEffect _ _ s hx h
  case push rp => cases rp <;> exact regRead_congr hx rfl
  case pop rp =>
    cases rp
    case psw => exact regRead_regWrite_of_ne s hx (by simpa [mayWriteReg, poppedReg] using h) _
    case bc | de | hl =>
      rw [mayWriteReg, poppedReg] at h
      exact regRead_pairWrite_of_not_half s.popSp hx h _
  all_goals refine regRead_congr hx ?_
  case jcond | ccond | rcond =>
    simp only [formEffect, State.jumpIf, State.callIf, State.returnIf]
    split <;> rfl
  all_goals rfl

/-- SP changes only in the forms of its row of R36, a conditional call or return only when taken. -/
theorem formEffect_sp_of_mayWriteSp_eq_false (f : Form) (s : State) (h : mayWriteSp s f = false) :
    (formEffect f s).sp = s.sp := by
  cases f
  case mov | mvi | inr | dcr => exact State.regWrite_sp _ _ _
  case lxi | inx | dcx => exact pairWrite_sp_of_ne s (by simpa [mayWriteSp] using h) _
  case alu | aluImm => exact aluEffect_sp _ _ _
  case jcond =>
    simp only [formEffect, State.jumpIf]
    split <;> rfl
  case ccond | rcond =>
    simp only [mayWriteSp] at h
    simp [formEffect, State.callIf, State.returnIf, h]
  case push | pop | call | ret | rst | sphl => cases h
  all_goals rfl

/-- Settles O52, form by form. -/
theorem onlyTheListedInstructionsWriteEachRegister : Obligations.OnlyTheListedInstructionsWriteEachRegister := by
  intro i s t h
  obtain rfl := eq_formEffect_of_exec h
  exact ⟨fun _ hx hr => formEffect_regRead_of_mayWriteReg_eq_false _ s hx hr,
    formEffect_sp_of_mayWriteSp_eq_false _ s⟩

end Sys2Proof.Machine
end

section
/-! SUPPORT. The canonical form of memory determines it (entry 3), the cells every instruction leaves alone, and the statements of
20_memory.md that follow. -/

namespace Sys2Proof.Machine

/-! ## The canonical form (20_memory.md section 1, entry 3) -/

theorem Memory.wfFrom_cons_iff {lo k : Nat} {v : Byte} {rest : Memory} :
    Memory.wfFrom lo ((k, v) :: rest) = true ↔
      lo ≤ k ∧ k < 65536 ∧ v ≠ Memory.unlisted ∧ Memory.wfFrom (k + 1) rest = true := by
  simp [Memory.wfFrom, and_assoc]

@[simp] theorem Memory.readByte_cons_self (k : Nat) (v : Byte) (rest : Memory) :
    Memory.readByte ((k, v) :: rest) k = v := if_pos rfl

@[simp] theorem Memory.readByte_nil (a : Nat) : Memory.readByte [] a = Memory.unlisted := rfl

theorem Memory.readByte_cons_of_ne {k a : Nat} (h : k ≠ a) (v : Byte) (rest : Memory) :
    Memory.readByte ((k, v) :: rest) a = Memory.readByte rest a := if_neg h

/-- A canonical memory lists no cell below its bound. -/
theorem Memory.readByte_eq_unlisted_of_lt {lo a : Nat} {m : Memory} (h : Memory.wfFrom lo m = true) (ha : a < lo) :
    m.readByte a = Memory.unlisted := by
  induction m generalizing lo with
  | nil => rfl
  | cons c rest ih =>
    obtain ⟨k, v⟩ := c
    obtain ⟨hlo, -, -, hrest⟩ := Memory.wfFrom_cons_iff.mp h
    rw [Memory.readByte_cons_of_ne (by omega)]
    exact ih hrest (by omega)

/-- A canonical memory lists no cell below its first entry. -/
theorem Memory.head_le_of_listed {lo k a : Nat} {v : Byte} {rest : Memory}
    (h : Memory.wfFrom lo ((k, v) :: rest) = true)
    (hlisted : Memory.readByte ((k, v) :: rest) a ≠ Memory.unlisted) : k ≤ a := by
  obtain ⟨-, hk, hv, hrest⟩ := Memory.wfFrom_cons_iff.mp h
  have hfrom : Memory.wfFrom k ((k, v) :: rest) = true := Memory.wfFrom_cons_iff.mpr ⟨le_rfl, hk, hv, hrest⟩
  exact not_lt.mp fun hlt => hlisted (Memory.readByte_eq_unlisted_of_lt hfrom hlt)

/-- Canonical memories that read the same are the same list: their first entries are for the same cell with the same byte, and their tails
read the same. -/
theorem Memory.eq_of_readByte_eq {lo : Nat} {m n : Memory} (hm : Memory.wfFrom lo m = true)
    (hn : Memory.wfFrom lo n = true) (h : ∀ a < 65536, m.readByte a = n.readByte a) : m = n := by
  induction m generalizing lo n with
  | nil =>
    cases n with
    | nil => rfl
    | cons d rest' =>
      obtain ⟨k, v⟩ := d
      obtain ⟨-, hk, hv, -⟩ := Memory.wfFrom_cons_iff.mp hn
      exact absurd (by simpa using (h k hk).symm) hv
  | cons c rest ih =>
    obtain ⟨k, v⟩ := c
    obtain ⟨-, hk, hv, hrest⟩ := Memory.wfFrom_cons_iff.mp hm
    cases n with
    | nil => exact absurd (by simpa using h k hk) hv
    | cons d rest' =>
      obtain ⟨k', v'⟩ := d
      obtain ⟨-, hk', hv', hrest'⟩ := Memory.wfFrom_cons_iff.mp hn
      have hle : k' ≤ k := Memory.head_le_of_listed hn (by rwa [← h k hk, Memory.readByte_cons_self])
      have hge : k ≤ k' := Memory.head_le_of_listed hm (by rwa [h k' hk', Memory.readByte_cons_self])
      obtain rfl := le_antisymm hge hle
      obtain rfl : v = v' := by simpa using h k hk
      have htail (a : Nat) (ha : a < 65536) : Memory.readByte rest a = Memory.readByte rest' a := by
        by_cases hak : k = a
        · subst hak
          rw [Memory.readByte_eq_unlisted_of_lt hrest (Nat.lt_succ_self k),
            Memory.readByte_eq_unlisted_of_lt hrest' (Nat.lt_succ_self k)]
        · simpa only [Memory.readByte_cons_of_ne hak] using h a ha
      rw [ih hrest hrest' htail]

/-- Writing to a cell the byte it holds leaves a canonical memory as it is. -/
theorem Memory.writeByte_readByte_self {m : Memory} (h : m.wf = true) {a : Nat} (ha : a < 65536) :
    m.writeByte a (m.readByte a) = m := by
  refine Memory.eq_of_readByte_eq (Memory.wf_writeByte h ha _) h fun b _ => ?_
  rw [Memory.readByte_writeByte, ite_eq_right_iff]
  rintro rfl
  rfl

/-- Settles O45, from the equality of canonical lists that read the same. -/
theorem memoryIsCanonical : Obligations.MemoryIsCanonical := by
  refine ⟨fun m n hm hn h => ?_, fun s x hwf => ?_⟩
  · exact Memory.eq_of_readByte_eq hm hn fun a ha => by simpa [Nat.mod_eq_of_lt ha] using h (BitVec.ofNat 16 a)
  · rw [State.write, State.read, Memory.writeByte_readByte_self hwf x.isLt]

/-! ## The cells an instruction stores to (20_memory.md section 2) -/

/-- A write to an operand changes the cell at HL alone, and only through M (R151). -/
theorem State.read_regWrite_of_notMem {s : State} {r : Reg8} {x : Word} (h : x ∉ if r = .m then [s.hl] else [])
    (v : Byte) : (s.regWrite r v).read x = s.read x := by
  by_cases hr : r = .m
  · subst hr
    exact (State.read_write s s.hl x v).trans (if_neg (by simpa using h))
  · exact State.read_congr _ _ (State.regWrite_mem s hr v) x

/-- A 16-bit write changes its two cells alone (R76). -/
theorem State.read_write16_of_notMem {s : State} {a x : Word} (h : x ∉ [a, a + 1#16]) (w : Word) :
    (s.write16 a w).read x = s.read x := by
  obtain ⟨hlow, hhigh⟩ : x ≠ a ∧ x ≠ a + 1#16 := by simpa using h
  rw [State.read_write16, if_neg hlow, if_neg hhigh]

/-- A push changes the two cells below SP alone (R270). -/
theorem State.read_push16_of_notMem {s : State} {x : Word} (h : x ∉ [s.sp - 2#16, s.sp - 1#16]) (w : Word) :
    (s.push16 w).read x = s.read x := by
  have hhigh : s.sp - 2#16 + 1#16 = s.sp - 1#16 := by bv_omega
  exact State.read_write16_of_notMem (s := s.setSp _) (hhigh ▸ h) w

/-- No ALU operation stores to memory. -/
@[simp] theorem aluEffect_read (op : AluOp) (v : Byte) (s : State) (x : Word) :
    (aluEffect op v s).read x = s.read x := by
  cases op <;> rfl

/-- A cell changes only where R80 says the form stores to it. -/
theorem formEffect_read_of_notMem_storedCells (f : Form) (s : State) {x : Word} (h : x ∉ storedCells s f) :
    (formEffect f s).read x = s.read x := by
  cases f
  case mov | mvi | inr | dcr => exact State.read_regWrite_of_notMem h _
  case sta | stax => exact (State.read_write s _ x _).trans (if_neg (by simpa [storedCells] using h))
  case shld =>
    obtain ⟨hlow, hhigh⟩ := not_or.mp (mt List.mem_pair.mpr h)
    rw [formEffect, State.storeHL, State.read_write, if_neg hhigh, State.read_write, if_neg hlow]
  case call | rst => exact State.read_push16_of_notMem h _
  case push rp => cases rp <;> exact State.read_push16_of_notMem h _
  case xthl => exact (State.pairWrite_read _ _ _ x).trans (State.read_write16_of_notMem h _)
  case ccond cond a16 =>
    rw [storedCells] at h
    rw [formEffect, State.callIf]
    by_cases hc : condHolds cond s.flags = true
    · rw [if_pos hc] at h ⊢
      exact State.read_push16_of_notMem h _
    · rw [if_neg hc]
  case lxi | inx | dcx => exact State.pairWrite_read s _ _ x
  case alu | aluImm => exact aluEffect_read _ _ s x
  case pop rp => cases rp <;> rfl
  case jcond | rcond =>
    simp only [formEffect, State.jumpIf, State.returnIf]
    split <;> rfl
  all_goals rfl

/-- Settles O53, form by form. -/
theorem onlyTheStoredCellsChange : Obligations.OnlyTheStoredCellsChange := by
  intro i s t h x hx
  obtain rfl := eq_formEffect_of_exec h
  exact formEffect_read_of_notMem_storedCells i.form s hx

end Sys2Proof.Machine
end

section
/-! SUPPORT. The decoder says which entry it filled, every instruction is a filling of its opcode's entry, and the statements of
30_encoding.md sections 1 to 3 that follow. -/

namespace Sys2Proof.Machine

/-! ## The entries of the opcode map (R110 to R112) -/

/-- A 16-bit operand fills an F3 entry by its low, then its high byte (R108). -/
theorem Entry.fill_f3_wordBytes (make : Word → Instr) (w : Word) :
    (Entry.f3 make).fill (lo8 w) (hi8 w) = some (make w) := by
  rw [Entry.fill, cat_hi8_lo8]

/-- The entry of an instruction's opcode byte, filled with its operand bytes, is the instruction (R145). -/
theorem fill_opcode_operands (i : Instr) :
    (decodeEntry i.form.opcode).fill (i.form.operands.getD 0 0#8) (i.form.operands.getD 1 0#8) = some i := by
  cases i
  all_goals dsimp only [Instr.form, Form.opcode, Form.operands, wordBytes]
  case lxiB w | lxiD w | lxiH w | lxiSp w => exact Entry.fill_f3_wordBytes _ w
  case lda w | sta w | lhld w | shld w | jmp w | call w => exact Entry.fill_f3_wordBytes _ w
  case jnz w | jz w | jnc w | jc w | jpo w | jpe w | jp w | jm w => exact Entry.fill_f3_wordBytes _ w
  case cnz w | cz w | cnc w | cc w | cpo w | cpe w | cp w | cm w => exact Entry.fill_f3_wordBytes _ w
  all_goals rfl

/-! ## The decoder -/

/-- What the decoder answers: an illegal byte, too few bytes, or a filling of the first byte's entry, whose encoding it has taken (R110,
R112). -/
theorem decode_cons_cases (op : Byte) (bytes : List Byte) :
    (op ∈ illegalOpcodes ∧ decode (op :: bytes) = .illegalOpcode op) ∨
    (op ∉ illegalOpcodes ∧ decode (op :: bytes) = .truncated) ∨
    (op ∉ illegalOpcodes ∧ ∃ i b1 b2 rest, (decodeEntry op).fill b1 b2 = some i ∧ op :: bytes = encode i ++ rest ∧
      decode (op :: bytes) = .ok i rest) := by
  have hspec := decodeEntry_spec op
  unfold decode
  dsimp only
  generalize decodeEntry op = e at *
  cases e
  case illegal => exact .inl ⟨hspec, rfl⟩
  case f1 i =>
    obtain ⟨henc, -, hop⟩ := hspec
    exact .inr (.inr ⟨hop, i, 0, 0, bytes, rfl, by rw [henc]; rfl, rfl⟩)
  case f2 make =>
    rcases bytes with _ | ⟨b1, rest⟩
    · exact .inr (.inl ⟨(hspec 0).2.2, rfl⟩)
    · obtain ⟨henc, -, hop⟩ := hspec b1
      exact .inr (.inr ⟨hop, make b1, b1, 0, rest, rfl, by rw [henc]; rfl, rfl⟩)
  case f3 make =>
    rcases bytes with _ | ⟨b1, _ | ⟨b2, rest⟩⟩
    · exact .inr (.inl ⟨(hspec 0).2.2, rfl⟩)
    · exact .inr (.inl ⟨(hspec 0).2.2, rfl⟩)
    · obtain ⟨henc, -, hop⟩ := hspec (cat b2 b1)
      exact .inr (.inr ⟨hop, make (cat b2 b1), b1, b2, rest, rfl, by rw [henc, lo8_cat, hi8_cat]; rfl, rfl⟩)

/-- What the decoder reads is a filling of the first byte's entry, and it has taken the encoding of it (R110). -/
theorem fill_and_eq_encode_of_decode {op : Byte} {bytes rest : List Byte} {i : Instr}
    (h : decode (op :: bytes) = .ok i rest) :
    (∃ b1 b2, (decodeEntry op).fill b1 b2 = some i) ∧ op :: bytes = encode i ++ rest := by
  rcases decode_cons_cases op bytes with ⟨-, hd⟩ | ⟨-, hd⟩ | ⟨-, j, b1, b2, rest', hfill, heq, hd⟩
  all_goals cases hd.symm.trans h
  exact ⟨⟨b1, b2, hfill⟩, heq⟩

/-- The encoding of a filling of an entry decodes to it (R110). -/
theorem decode_encode_of_fill {op b1 b2 : Byte} {i : Instr} (h : (decodeEntry op).fill b1 b2 = some i) (rest : List Byte) :
    decode (encode i ++ rest) = .ok i rest := by
  have hspec := decodeEntry_spec op
  cases he : decodeEntry op
  all_goals
    rw [he] at h hspec
    cases h
  case f1 => rw [hspec.1]; simp [decode, he]
  case f2 => rw [(hspec b1).1]; simp [decode, he]
  case f3 => rw [(hspec _).1]; simp [decode, he]

/-- Settles O37: every instruction is a filling of an entry. -/
theorem decodeInvertsEncode : Obligations.DecodeInvertsEncode := fun i rest =>
  decode_encode_of_fill (fill_opcode_operands i) rest

/-- Settles O38, over the entries of the opcode map. -/
theorem encodeInvertsDecode : Obligations.EncodeInvertsDecode := by
  rintro (_ | ⟨op, bytes⟩) rest i h
  · cases h
  · exact (fill_and_eq_encode_of_decode h).2

/-- Settles O40: the decoder rejects exactly the bytes with no entry. -/
theorem theTenIllegalBytesAreExactlyRejected : Obligations.TheTenIllegalBytesAreExactlyRejected := by
  intro op rest
  rcases decode_cons_cases op rest with ⟨hop, hd⟩ | ⟨hop, hd⟩ | ⟨hop, _, _, _, _, -, -, hd⟩
  · exact iff_of_true hd hop
  all_goals exact iff_of_false (fun h => nomatch hd.symm.trans h) hop

/-! ## The forms (30_encoding.md section 3) -/

/-- Instructions of one form have one encoding, which decodes to both. -/
theorem form_injective {i j : Instr} (h : i.form = j.form) : i = j := by
  have henc : encode i = encode j := encode_of_form h
  have hdec : DecodeResult.ok i [] = .ok j [] := by
    rw [← decodeInvertsEncode i, ← decodeInvertsEncode j, henc]
  exact (DecodeResult.ok.inj hdec).1

/-- The five forms that do not exist (R103, R113). -/
theorem wellFormed_eq_false_iff (f : Form) :
    f.wellFormed = false ↔ f = .mov .m .m ∨ f = .ldax .hl ∨ f = .ldax .sp ∨ f = .stax .hl ∨ f = .stax .sp := by
  cases f
  case mov dst src => simp [Form.wellFormed]
  case ldax rp | stax rp => cases rp <;> decide
  all_goals simp [Form.wellFormed]

/-- Settles O39: a form has at most one instruction because its encoding decodes to one. -/
theorem everyFormIsExactlyOneInstruction : Obligations.EveryFormIsExactlyOneInstruction := by
  refine fun f => ⟨fun hw => ?_, ?_, wellFormed_eq_false_iff f⟩
  · obtain ⟨i, rfl⟩ := f.exists_instr hw
    exact ⟨i, rfl, fun j hj => form_injective hj⟩
  · rintro hw i rfl
    exact Bool.false_ne_true (hw.symm.trans (form_wellFormed i))

/-! ## The length (R111, R145) -/

theorem encodeForm_length (f : Form) : (encodeForm f).length = f.length := by
  cases f <;> rfl

theorem form_length_bounds (f : Form) : 1 ≤ f.length ∧ f.length ≤ 3 := by
  cases f <;> simp [Form.length]

/-- The forms of 3 bytes. -/
theorem form_length_eq_three_iff (f : Form) :
    f.length = 3 ↔ (∃ p w, f = .lxi p w) ∨ (∃ w, f = .shld w ∨ f = .lhld w ∨ f = .sta w ∨ f = .lda w ∨ f = .jmp w ∨ f = .call w) ∨
      (∃ cond w, f = .jcond cond w ∨ f = .ccond cond w) := by
  cases f <;> simp [Form.length]

/-- The forms of 2 bytes. -/
theorem form_length_eq_two_iff (f : Form) :
    f.length = 2 ↔ (∃ r v, f = .mvi r v) ∨ (∃ op v, f = .aluImm op v) ∨ ∃ v, f = .input v ∨ f = .output v := by
  cases f <;> simp [Form.length]

/-- Settles O41: each clause is about the filling of the first byte's entry. -/
theorem lengthIsAFunctionOfTheOpcodeByte : Obligations.LengthIsAFunctionOfTheOpcodeByte := by
  refine ⟨fun i j h => ?_, fun i => ⟨_, _, rfl, fill_opcode_operands i⟩, fun op bytes rest i h => ?_, fun i => ?_,
    fun op b1 b2 i => length_of_fill⟩
  · have hi := fill_opcode_operands i
    have hj := fill_opcode_operands j
    have hop : i.form.opcode = j.form.opcode := Option.some.inj h
    rw [← hop] at hj
    exact ⟨(length_of_fill hi).symm.trans (length_of_fill hj), _, _, _, _, _, rfl, hi, hj⟩
  · exact (fill_and_eq_encode_of_decode h).1
  · exact ⟨encodeForm_length _, form_length_eq_three_iff _, form_length_eq_two_iff _, form_length_bounds _⟩

end Sys2Proof.Machine
end

section
/-! SUPPORT. What an accepted line encodes to, the bytes of a program in memory, and the statement of 30_encoding.md R123 and R124 that
follows. -/

namespace Sys2Proof.Machine

/-! ## Accepted lines (R120, R121) -/

theorem AsmResult.bind_eq_ok_iff {α β : Type} {x : AsmResult α} {f : α → AsmResult β} {b : β} :
    x.bind f = .ok b ↔ ∃ a, x = .ok a ∧ f a = .ok b := by
  cases x <;> simp [AsmResult.bind]

/-- The encoder reads only forms that exist (R121). -/
theorem wellFormed_of_parseLine {line : List Char} {f : Form} (h : parseLine line = .ok f) : f.wellFormed = true := by
  unfold parseLine at h
  split at h
  · cases h
  · obtain ⟨g, -, hg⟩ := AsmResult.bind_eq_ok_iff.mp h
    split at hg
    · cases hg; assumption
    · cases hg

/-- The bytes of an accepted line are those of a form that exists (R120). -/
theorem exists_form_of_encodeLine {line : List Char} {bytes : List Byte} (h : encodeLine line = .ok bytes) :
    ∃ f : Form, f.wellFormed = true ∧ bytes = encodeForm f := by
  obtain ⟨f, hf, hbytes⟩ := AsmResult.bind_eq_ok_iff.mp h
  cases hbytes
  exact ⟨f, wellFormed_of_parseLine hf, rfl⟩

/-! ## Programs (R123, R124) -/

/-- Bytes stored from `addr` on, wrapping, stand there and change no other cell, if they do not overtake themselves (R123). -/
theorem Memory.readByte_writeBytes (m : Memory) (addr x : Word) {bs : List Byte} (h : bs.length ≤ 65536) :
    (m.writeBytes addr bs).readByte x.toNat = bs.getD (x - addr).toNat (m.readByte x.toNat) := by
  induction bs generalizing m addr with
  | nil => rfl
  | cons b bs ih =>
    have hlen : bs.length < 65536 := h
    rw [Memory.writeBytes, ih _ _ hlen.le, Memory.readByte_writeByte]
    by_cases hx : x = addr
    · subst hx
      have hfar : (x - (x + 1#16)).toNat = 65535 := by bv_omega
      rw [hfar, List.getD_eq_default _ _ (by omega)]
      simp
    · have hnext : (x - addr).toNat = (x - (addr + 1#16)).toNat + 1 := by bv_omega
      rw [hnext, List.getD_cons_succ, if_neg (mt BitVec.eq_of_toNat_eq hx)]

theorem loadProgram_cons_of_ok {line : List Char} {bytes : List Byte} (h : encodeLine line = .ok bytes)
    (rest : List (List Char)) (addr : Word) (m : Memory) :
    loadProgram (line :: rest) addr m =
      loadProgram rest (addr + BitVec.ofNat 16 bytes.length) (m.writeBytes addr bytes) := by
  rw [loadProgram, h]

theorem loadProgram_cons_of_error {line : List Char} {e : AsmError} (h : encodeLine line = .error e)
    (rest : List (List Char)) (addr : Word) (m : Memory) : loadProgram (line :: rest) addr m = (m, some e) := by
  rw [loadProgram, h]

/-- Lines that all encode are written, and a failing line after them writes nothing and hides the lines after it (R124). -/
theorem loadProgram_append_error {good : List (List Char)} {addr : Word} {m : Memory} {bad : List Char} {e : AsmError}
    (hgood : (loadProgram good addr m).2 = none) (hbad : encodeLine bad = .error e) (rest : List (List Char)) :
    loadProgram (good ++ bad :: rest) addr m = ((loadProgram good addr m).1, some e) := by
  induction good generalizing addr m with
  | nil => exact loadProgram_cons_of_error hbad rest addr m
  | cons line good ih =>
    cases hline : encodeLine line with
    | ok bytes =>
      rw [loadProgram_cons_of_ok hline] at hgood ⊢
      rw [List.cons_append, loadProgram_cons_of_ok hline, ih hgood]
    | error e' =>
      rw [loadProgram_cons_of_error hline] at hgood
      cases hgood

/-- Settles O44: a line that encodes has at most 3 bytes, so they stand where they were written. -/
theorem loadProgramWritesUpToTheFirstError : Obligations.LoadProgramWritesUpToTheFirstError := by
  refine ⟨fun good rest bad addr m e hgood hbad => loadProgram_append_error hgood hbad rest,
    fun line bytes addr m h => ⟨m.writeBytes addr bytes, fun rest => loadProgram_cons_of_ok h rest addr m, fun x => ?_⟩⟩
  obtain ⟨f, -, rfl⟩ := exists_form_of_encodeLine h
  have hlen : (encodeForm f).length ≤ 3 := encodeForm_length f ▸ (form_length_bounds f).2
  exact Memory.readByte_writeBytes m addr x (by omega)

end Sys2Proof.Machine
end

section
/-! SUPPORT. The mnemonic and the operands of the line of every form (30_encoding.md R116 to R119), and the round trip of the assembler. -/

namespace Sys2Proof.Machine

/-! ## The parts of a line (R116) -/

/-- A word of a line: some text without a space or a comma. -/
def isToken (t : List Char) : Bool := !t.isEmpty && t.all fun ch => ch != ' ' && ch != ','

theorem isToken_iff {t : List Char} :
    isToken t = true ↔ t ≠ [] ∧ (∀ ch ∈ t, ch ≠ ' ') ∧ ∀ ch ∈ t, ch ≠ ',' := by
  simp [isToken, forall_and]

/-- An operand field by R116, with its operands: none, one, or two separated by one comma. -/
inductive OperandField : List Char → List (List Char) → Prop
  | none : OperandField [] []
  | one {t : List Char} (ht : isToken t = true) : OperandField t [t]
  | two {t u : List Char} (ht : isToken t = true) (hu : isToken u = true) : OperandField (t ++ ',' :: u) [t, u]

/-- A text without a space is trimmed already. -/
theorem trimSpaces_of_noSpace {t : List Char} (h : ∀ ch ∈ t, ch ≠ ' ') : trimSpaces t = t :=
  trimSpaces_eq_self (fun ch hc => beq_false_of_ne (h ch (List.mem_of_mem_head? hc)))
    (fun ch hc => beq_false_of_ne (h ch (List.mem_of_mem_getLast? hc)))

/-- One space before an operand field is dropped. -/
theorem trimSpaces_space_cons (t : List Char) : trimSpaces (' ' :: t) = trimSpaces t := rfl

section
variable {mn cs : List Char} (hmn : ∀ ch ∈ mn, ch ≠ ' ')
include hmn

/-- The mnemonic ends at the first space (R116). -/
theorem takeWhile_append_space : (mn ++ ' ' :: cs).takeWhile (· != ' ') = mn := by
  rw [List.takeWhile_append_of_pos fun ch hc => bne_iff_ne.mpr (hmn ch hc)]
  simp

/-- The operand field starts after the mnemonic (R116). -/
theorem dropWhile_append_space : (mn ++ ' ' :: cs).dropWhile (· != ' ') = ' ' :: cs := by
  rw [List.dropWhile_append_of_pos fun ch hc => bne_iff_ne.mpr (hmn ch hc)]
  simp

/-- A mnemonic alone has no operands (R116). -/
theorem lineParts_mnemonic : lineMnemonic mn = mn ∧ lineOperands mn = [] := by
  have hall : ∀ ch ∈ mn, (ch != ' ') = true := fun ch hc => bne_iff_ne.mpr (hmn ch hc)
  unfold lineMnemonic lineOperands
  rw [trimSpaces_of_noSpace hmn, List.takeWhile_eq_self_iff.mpr hall, List.dropWhile_eq_nil_iff.mpr hall]
  exact ⟨rfl, rfl⟩

/-- A mnemonic, a space and an operand field are read apart (R116). -/
theorem lineParts_mnemonic_field (hmn' : mn ≠ []) (hcs : ∀ ch ∈ cs, ch ≠ ' ') (hcs' : cs ≠ []) :
    lineMnemonic (mn ++ ' ' :: cs) = mn ∧ lineOperands (mn ++ ' ' :: cs) = (splitCommas cs).map trimSpaces := by
  have htrim : trimSpaces (mn ++ ' ' :: cs) = mn ++ ' ' :: cs := by
    refine trimSpaces_eq_self (fun ch hc => ?_) (fun ch hc => ?_)
    · rw [List.head?_append_of_ne_nil _ hmn'] at hc
      exact beq_false_of_ne (hmn ch (List.mem_of_mem_head? hc))
    · rw [List.append_cons, List.getLast?_append_of_ne_nil _ hcs'] at hc
      exact beq_false_of_ne (hcs ch (List.mem_of_mem_getLast? hc))
  unfold lineMnemonic lineOperands
  rw [htrim, takeWhile_append_space hmn, dropWhile_append_space hmn, trimSpaces_space_cons, trimSpaces_of_noSpace hcs]
  cases cs
  · exact absurd rfl hcs'
  · exact ⟨rfl, rfl⟩

end

theorem OperandField.noSpace {cs : List Char} {ops : List (List Char)} (h : OperandField cs ops) : ∀ ch ∈ cs, ch ≠ ' ' := by
  cases h with
  | none => nofun
  | one ht => exact (isToken_iff.mp ht).2.1
  | two ht hu =>
    obtain ⟨-, htspace, -⟩ := isToken_iff.mp ht
    obtain ⟨-, huspace, -⟩ := isToken_iff.mp hu
    exact List.forall_mem_append.mpr ⟨htspace, List.forall_mem_cons.mpr ⟨by decide, huspace⟩⟩

theorem OperandField.eq_nil_iff {cs : List Char} {ops : List (List Char)} (h : OperandField cs ops) : cs = [] ↔ ops = [] := by
  cases h with
  | none => exact iff_of_true rfl rfl
  | one ht => exact iff_of_false (isToken_iff.mp ht).1 (List.cons_ne_nil _ _)
  | two => simp

/-- A field that is not empty splits into its operands (R116). -/
theorem OperandField.split {cs : List Char} {ops : List (List Char)} (h : OperandField cs ops) (hcs : cs ≠ []) :
    (splitCommas cs).map trimSpaces = ops := by
  cases h with
  | none => exact absurd rfl hcs
  | one ht =>
    obtain ⟨-, hspace, hcomma⟩ := isToken_iff.mp ht
    rw [splitCommas_one hcomma, List.map_singleton, trimSpaces_of_noSpace hspace]
  | two ht hu =>
    obtain ⟨-, htspace, htcomma⟩ := isToken_iff.mp ht
    obtain ⟨-, huspace, hucomma⟩ := isToken_iff.mp hu
    rw [splitCommas_two htcomma hucomma, List.map_cons, List.map_singleton, trimSpaces_of_noSpace htspace, trimSpaces_of_noSpace huspace]

/-- The line of a form is read as its mnemonic and its operands (R116). -/
theorem lineParts_line {f : Form} {ops : List (List Char)} (hmn : isToken f.mnemonic = true)
    (h : OperandField f.operandText ops) : lineMnemonic f.line = f.mnemonic ∧ lineOperands f.line = ops := by
  obtain ⟨hne, hspace, -⟩ := isToken_iff.mp hmn
  unfold Form.line
  split
  next hnil =>
    rw [h.eq_nil_iff.mp hnil]
    exact lineParts_mnemonic hspace
  next hcs =>
    rw [← h.split hcs]
    exact lineParts_mnemonic_field hspace hne h.noSpace hcs

/-! ## The texts of a form (R117, R118) -/

theorem reg8_text_isToken (r : Reg8) : isToken r.text = true := by
  cases r <;> decide

theorem regPair_text_isToken (p : RegPair) : isToken p.text = true := by
  cases p <;> decide

theorem stackPair_text_isToken (p : StackPair) : isToken p.text = true := by
  cases p <;> decide

theorem hex2_isToken : ∀ v : Byte, isToken (hex2 v) = true := by
  decide

theorem hex4_isToken (w : Word) : isToken (hex4 w) = true := by
  have hhigh := hex2_isToken (hi8 w)
  have hlow := hex2_isToken (lo8 w)
  simp_all [isToken, hex4]

theorem restartDigit_isToken : ∀ n : BitVec 3, isToken [hexChar n.toNat] = true := by
  decide

theorem mnemonicTable_isToken : ∀ e ∈ mnemonicTable, isToken e.1 = true := by
  decide

/-! ## The operands a template takes (R119) -/

@[simp] theorem AsmResult.bind_ok {α β : Type} (v : α) (f : α → AsmResult β) : (AsmResult.ok v).bind f = f v := rfl

@[simp] theorem parseName_reg8_text (r : Reg8) : parseName regNames r.text = .ok r := by
  cases r <;> rfl

@[simp] theorem parseName_regPair_text (p : RegPair) : parseName pairNames p.text = .ok p := by
  cases p <;> rfl

@[simp] theorem parseName_stackPair_text (p : StackPair) : parseName stackPairNames p.text = .ok p := by
  cases p <;> rfl

@[simp] theorem parseName_restartDigit : ∀ n : BitVec 3, parseName restartDigits [hexChar n.toNat] = .ok n := by
  decide

theorem fill_reg (make : Reg8 → Form) (r : Reg8) : (Template.reg make).fill [r.text] = .ok (make r) := by
  simp [Template.fill]

theorem fill_regReg (make : Reg8 → Reg8 → Form) (dst src : Reg8) :
    (Template.regReg make).fill [dst.text, src.text] = .ok (make dst src) := by
  simp [Template.fill]

theorem fill_regImm8 (make : Reg8 → Byte → Form) (r : Reg8) (v : Byte) :
    (Template.regImm8 make).fill [r.text, hex2 v] = .ok (make r v) := by
  simp [Template.fill, parseHex_hex2]

theorem fill_pair (make : RegPair → Form) (p : RegPair) : (Template.pair make).fill [p.text] = .ok (make p) := by
  simp [Template.fill]

theorem fill_pairImm16 (make : RegPair → Word → Form) (p : RegPair) (w : Word) :
    (Template.pairImm16 make).fill [p.text, hex4 w] = .ok (make p w) := by
  simp [Template.fill, parseHex_hex4]

theorem fill_stackPair (make : StackPair → Form) (p : StackPair) :
    (Template.stackPair make).fill [p.text] = .ok (make p) := by
  simp [Template.fill]

theorem fill_addr16 (make : Word → Form) (w : Word) : (Template.addr16 make).fill [hex4 w] = .ok (make w) := by
  simp [Template.fill, parseHex_hex4]

theorem fill_imm8 (make : Byte → Form) (v : Byte) : (Template.imm8 make).fill [hex2 v] = .ok (make v) := by
  simp [Template.fill, parseHex_hex2]

theorem fill_digit (make : BitVec 3 → Form) (n : BitVec 3) :
    (Template.digit make).fill [[hexChar n.toNat]] = .ok (make n) := by
  simp [Template.fill]

/-- The table has the mnemonic of every form, with a template that makes the form of its operands (R119). -/
theorem exists_template (f : Form) : ∃ t ops, mnemonicTable.lookup f.mnemonic = some t ∧
    OperandField f.operandText ops ∧ t.fill ops = .ok f := by
  cases f
  case mov dst src =>
    exact ⟨.regReg _, _, rfl, .two (reg8_text_isToken dst) (reg8_text_isToken src), fill_regReg _ dst src⟩
  case mvi r v => exact ⟨.regImm8 _, _, rfl, .two (reg8_text_isToken r) (hex2_isToken v), fill_regImm8 _ r v⟩
  case lxi p w => exact ⟨.pairImm16 _, _, rfl, .two (regPair_text_isToken p) (hex4_isToken w), fill_pairImm16 _ p w⟩
  case alu op r => exact ⟨.reg (.alu op), _, by cases op <;> rfl, .one (reg8_text_isToken r), fill_reg _ r⟩
  case inr r | dcr r => exact ⟨.reg _, _, rfl, .one (reg8_text_isToken r), fill_reg _ r⟩
  case ldax p | stax p | inx p | dcx p | dad p => exact ⟨.pair _, _, rfl, .one (regPair_text_isToken p), fill_pair _ p⟩
  case push p | pop p => exact ⟨.stackPair _, _, rfl, .one (stackPair_text_isToken p), fill_stackPair _ p⟩
  case rst n => exact ⟨.digit _, _, rfl, .one (restartDigit_isToken n), fill_digit _ n⟩
  case lda w | sta w | lhld w | shld w | jmp w | call w => exact ⟨.addr16 _, _, rfl, .one (hex4_isToken w), fill_addr16 _ w⟩
  case jcond cond w => exact ⟨.addr16 (.jcond cond), _, by cases cond <;> rfl, .one (hex4_isToken w), fill_addr16 _ w⟩
  case ccond cond w => exact ⟨.addr16 (.ccond cond), _, by cases cond <;> rfl, .one (hex4_isToken w), fill_addr16 _ w⟩
  case aluImm op v => exact ⟨.imm8 (.aluImm op), _, by cases op <;> rfl, .one (hex2_isToken v), fill_imm8 _ v⟩
  case input v | output v => exact ⟨.imm8 _, _, rfl, .one (hex2_isToken v), fill_imm8 _ v⟩
  case rcond cond => exact ⟨.plain (.rcond cond), [], by cases cond <;> rfl, .none, rfl⟩
  all_goals exact ⟨.plain _, [], rfl, .none, rfl⟩

/-! ## The round trip (R125) -/

/-- The encoder reads the line of every form that exists as that form (R116 to R119). -/
theorem parseLine_line {f : Form} (hw : f.wellFormed = true) : parseLine f.line = .ok f := by
  obtain ⟨t, ops, hlook, hfield, hfill⟩ := exists_template f
  obtain ⟨before, after, htable, -⟩ := List.lookup_eq_some_iff.mp hlook
  have htoken : isToken f.mnemonic = true := mnemonicTable_isToken (f.mnemonic, t) (by simp [htable])
  obtain ⟨hmn, hops⟩ := lineParts_line htoken hfield
  unfold parseLine
  simp [hmn, hops, hlook, hfill, hw]

/-- Settles O43: the line of a form is read as that form, and every accepted line is one existing form. -/
theorem assemblerRoundTrip : Obligations.AssemblerRoundTrip := by
  refine ⟨fun f hw => ⟨?_, ?_⟩, fun line bytes h => ?_⟩
  · rw [encodeLine, parseLine_line hw, AsmResult.bind_ok]
  · obtain ⟨i, rfl⟩ := f.exists_instr hw
    exact ⟨i, rfl, by simpa [encode] using decodeInvertsEncode i []⟩
  · obtain ⟨f, hw, rfl⟩ := exists_form_of_encodeLine h
    obtain ⟨i, rfl⟩ := f.exists_instr hw
    exact ⟨i, rfl⟩

end Sys2Proof.Machine
end

section
/-! SUPPORT. What an executed and counted instruction answers for the step count and the fault, the states that have no step, the fetch as
the decoder's answer on the three bytes at PC, and the statements of 40_execution_cycle.md section 1 that follow. -/

namespace Sys2Proof.Machine

/-! ## An executed and counted instruction (R140, R309) -/

/-- The step count is one above that of the state the step began in: neither the advance nor the instruction counts. -/
theorem retire_formEffect_advance (i : Instr) (s : State) :
    (formEffect i.form (s.advance i)).retire = { formEffect i.form (s.advance i) with steps := s.steps + 1 } := by
  rw [State.retire, formEffect_steps]
  rfl

/-- An executed and counted instruction has raised no fault. -/
theorem retire_formEffect_advance_fault (i : Instr) (s : State) :
    (formEffect i.form (s.advance i)).retire.fault = s.fault :=
  formEffect_fault i.form (s.advance i)

/-! ## The states with no step (R142) -/

/-- A faulted state has no step, whether it is halted or not (R142, R308). -/
theorem step_of_faulted {s : State} {r : FaultRecord} (h : s.fault = some r) : step s = .fault (.faulted r) := by
  unfold step State.noStep
  rw [h]

/-- A halted state with no fault has no step (R142). -/
theorem step_of_halted {s : State} (hf : s.fault = none) (hh : s.halted = true) : step s = .fault .halted := by
  unfold step State.noStep
  rw [hf, hh]
  rfl

/-- A state at a byte with an entry fetches an instruction (R112). -/
theorem exists_fetch_of_notMem_illegalOpcodes {s : State} (h : s.read s.pc ∉ illegalOpcodes) : ∃ i, s.fetch = some i :=
  Option.ne_none_iff_exists'.mp (mt fetch_eq_none_iff.mp h)

/-- Settles O36: a state that is neither faulted nor halted is at its limit, at a byte with no entry, or at an instruction, and it steps in
each case. -/
theorem onlyTerminalStatesHaveNoStep : Obligations.OnlyTerminalStatesHaveNoStep := by
  refine fun s => ⟨fun _ => step_of_faulted, step_of_halted, fun hf hh => ?_⟩
  cases hl : s.limitReached
  case true => exact ⟨_, step_of_limit hf hh hl, fun _ => rfl, nofun, nofun⟩
  case false =>
    by_cases hop : s.read s.pc ∈ illegalOpcodes
    · exact ⟨_, step_of_illegal ⟨hf, hh, hl⟩ (fetch_eq_none_iff.mpr hop), nofun, fun _ _ => rfl, fun _ hne => absurd hop hne⟩
    · obtain ⟨i, hi⟩ := exists_fetch_of_notMem_illegalOpcodes hop
      have hfault := (retire_formEffect_advance_fault i s).trans hf
      have hsteps := congrArg State.steps (retire_formEffect_advance i s)
      exact ⟨_, step_of_running ⟨hf, hh, hl⟩ hi, nofun, fun _ h => absurd h hop, fun _ _ => ⟨hfault, hsteps⟩⟩

/-! ## The step limit (R143) -/

/-- Settles O35, over the cases of a step: the one that sets this fault is at the limit. -/
theorem stepLimitStopsBeforeTheFetch : Obligations.StepLimitStopsBeforeTheFetch := by
  refine ⟨fun s n hn hh hf hle => step_of_limit hf hh (limitReached_eq_true_iff.mpr ⟨n, hn, hle⟩), fun s t k hlt ht hk => ?_⟩
  have hnot : s.limitReached = false := limitReached_eq_false_iff.mpr hlt
  rcases step_cases s with ⟨_, -, hs⟩ | ⟨-, -, hs⟩ | ⟨-, -, hl, -⟩ | ⟨-, -, -, -, hs⟩ | ⟨i, hf, -, -, -, hs⟩
  · cases hs.symm.trans ht
  · cases hs.symm.trans ht
  · exact Bool.false_ne_true (hnot.symm.trans hl)
  · cases hs.symm.trans ht
    cases hk
  · cases hs.symm.trans ht
    have hfault := (retire_formEffect_advance_fault i s).trans hf
    cases hfault.symm.trans hk

/-! ## Fetch and decode (R144 to R146) -/

/-- What the decoder reads from three bytes is the first byte's entry filled with the two after it (R110, R145). -/
theorem fill_of_decode_three {op b1 b2 : Byte} {rest : List Byte} {i : Instr} (h : decode [op, b1, b2] = .ok i rest) :
    (decodeEntry op).fill b1 b2 = some i := by
  cases he : decodeEntry op <;> simp only [decode, he] at h
  case illegal => cases h
  all_goals exact congrArg some (DecodeResult.ok.inj h).1

/-- The decoder divides the bytes it reads into those of the instruction and the rest (R111, R145). -/
theorem length_add_rest_of_decode {bytes rest : List Byte} {i : Instr} (h : decode bytes = .ok i rest) :
    i.length + rest.length = bytes.length := by
  have henc : (encode i).length = i.length := encodeForm_length i.form
  rw [encodeInvertsDecode bytes rest i h, List.length_append, henc]

/-- Settles O33: the fetch is the decoder's answer on the three bytes at PC. -/
theorem stepRunsTheDecodedInstruction : Obligations.StepRunsTheDecodedInstruction := by
  intro s i rest hrun hdec
  have hfetch : s.fetch = some i := fill_of_decode_three hdec
  have hstep := step_of_running hrun hfetch
  rw [retire_formEffect_advance] at hstep
  exact ⟨length_add_rest_of_decode hdec, _, exec_eq i (s.advance i), hstep⟩

end Sys2Proof.Machine
end

section
/-! SUPPORT. The opcode byte as a sum of its fields, what a write to an operand and the accumulator's loads and stores change, and the
statements of 41_data_transfer.md that follow. -/

namespace Sys2Proof.Machine

/-! ## The opcode byte as a number (R101) -/

theorem opcode233_eq_ofNat : ∀ (hh : BitVec 2) (mmm lll : BitVec 3),
    opcode233 hh mmm lll = BitVec.ofNat 8 (64 * hh.toNat + 8 * mmm.toNat + lll.toNat) := by
  decide

theorem opcode224_eq_ofNat : ∀ (hh pp : BitVec 2) (llll : BitVec 4),
    opcode224 hh pp llll = BitVec.ofNat 8 (64 * hh.toNat + 16 * pp.toNat + llll.toNat) := by
  decide

/-! ## MOV and MVI (R180 to R184) -/

/-- A write to a register changes the register file alone (R151). -/
theorem regWrite_eq_with_regs (s : State) {r : Reg8} (hr : r ≠ .m) (v : Byte) :
    s.regWrite r v = { s with regs := (s.regWrite r v).regs } := by
  cases r
  case m => exact absurd rfl hr
  all_goals rfl

/-- A write to a register changes that register alone (R151). -/
theorem regWrite_register (s : State) {r : Reg8} (hr : r ≠ .m) (v : Byte) :
    s.regWrite r v = { s with regs := (s.regWrite r v).regs } ∧ WroteReg s (s.regWrite r v) r v ∧
      SameMemory s (s.regWrite r v) :=
  ⟨regWrite_eq_with_regs s hr v, wroteReg_regWrite s hr v, State.read_congr _ _ (State.regWrite_mem s hr v)⟩

/-- A write to M changes the cell at HL alone (R151). -/
theorem regWrite_memory (s : State) {r : Reg8} (hr : r = .m) (v : Byte) :
    s.regWrite r v = { s with mem := (s.regWrite r v).mem } ∧ StoredByte s (s.regWrite r v) s.hl v := by
  subst hr
  exact ⟨rfl, storedByte_write s s.hl v⟩

theorem encodeForm_mov (dst src : Reg8) :
    encodeForm (.mov dst src) = [BitVec.ofNat 8 (0x40 + 8 * dst.code.toNat + src.code.toNat)] := by
  simp [encodeForm, Form.opcode, Form.operands, opcode233_eq_ofNat]

theorem encodeForm_mvi (dst : Reg8) (d8 : Byte) :
    encodeForm (.mvi dst d8) = [BitVec.ofNat 8 (0x06 + 8 * dst.code.toNat), d8] := by
  simp [encodeForm, Form.opcode, Form.operands, opcode233_eq_ofNat, Nat.add_comm]

/-- MOV M,M does not exist (R113). -/
theorem not_memory_to_memory_of_form {i : Instr} {dst src : Reg8} (h : i.form = .mov dst src) :
    ¬(dst = .m ∧ src = .m) := by
  rintro ⟨rfl, rfl⟩
  have hwf := form_wellFormed i
  rw [h] at hwf
  exact Bool.false_ne_true hwf

/-- Settles O1: a MOV is a write of the source's value to the destination. -/
theorem movCopiesSourceToDestination : Obligations.MovCopiesSourceToDestination := fun _ dst src s h =>
  ⟨(encode_of_form h).trans (encodeForm_mov dst src), not_memory_to_memory_of_form h, _, exec_of_form h s,
    fun hr => regWrite_register s hr _, fun hm => regWrite_memory s hm _⟩

/-- Settles O2: an MVI is a write of the immediate to the destination. -/
theorem mviLoadsTheImmediate : Obligations.MviLoadsTheImmediate := fun _ dst d8 s h =>
  ⟨(encode_of_form h).trans (encodeForm_mvi dst d8), _, exec_of_form h s,
    fun hr => regWrite_register s hr d8, fun hm => regWrite_memory s hm d8⟩

/-! ## LXI (R185) -/

/-- A write to a pair changes the register file and SP alone (R152). -/
theorem pairWrite_eq_with_regs_sp (s : State) (p : RegPair) (w : Word) :
    s.pairWrite p w = { s with regs := (s.pairWrite p w).regs, sp := (s.pairWrite p w).sp } := by
  cases p <;> rfl

theorem encodeForm_lxi (rp : RegPair) (w : Word) :
    encodeForm (.lxi rp w) = [BitVec.ofNat 8 (0x01 + 16 * rp.code.toNat), lo8 w, hi8 w] := by
  simp [encodeForm, Form.opcode, Form.operands, wordBytes, opcode224_eq_ofNat, Nat.add_comm]

/-- Settles O3: an LXI is a write of its operand to the pair, whose halves are the operand's bytes. -/
theorem lxiLoadsThePair : Obligations.LxiLoadsThePair := by
  intro i rp b1 b2 s h
  have henc : encode i = [BitVec.ofNat 8 (0x01 + 16 * rp.code.toNat), b1, b2] := by
    rw [encode_of_form h, encodeForm_lxi, lo8_cat, hi8_cat]
  refine ⟨henc, _, exec_of_form h s, pairWrite_eq_with_regs_sp s rp _, State.pairWrite_read s rp _,
    State.pairWrite_regs_a s rp _, fun q => State.pairRead_pairWrite s rp q _, ?_, ?_, ?_, ?_⟩
  case refine_4 =>
    rintro rfl
    rfl
  all_goals
    rintro rfl
    exact ⟨hi8_cat b2 b1, lo8_cat b2 b1⟩

/-! ## LDA, LDAX, STA and STAX (R186, R187, R190, R191) -/

/-- A load of A changes A alone (R186, R190). -/
theorem loadA_register (s : State) (a : Word) :
    s.loadA a = { s with regs := (s.loadA a).regs } ∧ WroteReg s (s.loadA a) .a (s.read a) ∧ SameMemory s (s.loadA a) :=
  regWrite_register s (by decide) (s.read a)

/-- A store of A changes its cell alone (R187, R191). -/
theorem storeA_memory (s : State) (a : Word) :
    s.storeA a = { s with mem := (s.storeA a).mem } ∧ StoredByte s (s.storeA a) a s.regs.a :=
  ⟨rfl, storedByte_write s a s.regs.a⟩

theorem encodeForm_ldax (rp : RegPair) :
    encodeForm (.ldax rp) = [BitVec.ofNat 8 (0x0A + 16 * rp.code.toNat)] := by
  simp [encodeForm, Form.opcode, Form.operands, opcode224_eq_ofNat, Nat.add_comm]

theorem encodeForm_stax (rp : RegPair) :
    encodeForm (.stax rp) = [BitVec.ofNat 8 (0x02 + 16 * rp.code.toNat)] := by
  simp [encodeForm, Form.opcode, Form.operands, opcode224_eq_ofNat, Nat.add_comm]

/-- LDAX and STAX take only BC and DE (R103). -/
theorem bc_or_de_of_form {i : Instr} {rp : RegPair} (h : i.form = .ldax rp ∨ i.form = .stax rp) : rp = .bc ∨ rp = .de := by
  rcases h with h | h <;> simpa [h, Form.wellFormed] using form_wellFormed i

/-- Settles O4: both are the load of A, from the operand's cell and from the pair's. -/
theorem ldaAndLdaxLoadTheAccumulator : Obligations.LdaAndLdaxLoadTheAccumulator :=
  ⟨fun _ a16 s h => ⟨encode_of_form h, _, exec_of_form h s, loadA_register s a16⟩,
    fun _ rp s h => ⟨bc_or_de_of_form (.inl h), (encode_of_form h).trans (encodeForm_ldax rp), _, exec_of_form h s,
      loadA_register s (s.pairRead rp)⟩⟩

/-- Settles O5: both are the store of A, to the operand's cell and to the pair's. -/
theorem staAndStaxStoreTheAccumulator : Obligations.StaAndStaxStoreTheAccumulator :=
  ⟨fun _ a16 s h => ⟨encode_of_form h, _, exec_of_form h s, storeA_memory s a16⟩,
    fun _ rp s h => ⟨bc_or_de_of_form (.inr h), (encode_of_form h).trans (encodeForm_stax rp), _, exec_of_form h s,
      storeA_memory s (s.pairRead rp)⟩⟩

/-! ## LHLD, SHLD and XCHG (R188, R189, R192) -/

/-- Settles O6: LHLD sets H and L in one write of the register file, SHLD is two byte writes, low address first. -/
theorem lhldAndShldMoveHlLittleEndian : Obligations.LhldAndShldMoveHlLittleEndian :=
  ⟨fun _ _ s h => ⟨encode_of_form h, _, exec_of_form h s, rfl, fun _ => rfl, rfl⟩,
    fun _ a16 s h => ⟨encode_of_form h, _, exec_of_form h s, rfl, storedWord_write s a16 s.regs.l s.regs.h⟩⟩

/-- XCHG is its own inverse (R192). -/
@[simp] theorem exchangeDeHl_exchangeDeHl (s : State) : s.exchangeDeHl.exchangeDeHl = s := rfl

/-- Settles O7: XCHG is one write of the register file, and its own inverse. -/
theorem xchgExchangesDeAndHl : Obligations.XchgExchangesDeAndHl := by
  intro i s h
  have htwice : exec i s.exchangeDeHl = .next s := by
    rw [exec_of_form h, formEffect, exchangeDeHl_exchangeDeHl]
  exact ⟨encode_of_form h, _, exec_of_form h s, rfl, fun _ => rfl, rfl, htwice⟩

end Sys2Proof.Machine
end

section
/-! SUPPORT. What a write to an operand together with the flags changes, what DAA corrects, and the statements of 42_arithmetic.md that
follow. -/

namespace Sys2Proof.Machine

/-! ## A write to an operand together with the flags -/

/-- A write to a register and the flags changes these alone (R151). -/
theorem regWrite_setFlags_register (s : State) {r : Reg8} (hr : r ≠ .m) (v : Byte) (f : Flags) :
    (s.regWrite r v).setFlags f = { s with regs := ((s.regWrite r v).setFlags f).regs, flags := f } ∧
      WroteReg s ((s.regWrite r v).setFlags f) r v ∧ SameMemory s ((s.regWrite r v).setFlags f) := by
  obtain ⟨heq, hreg, hmem⟩ := regWrite_register s hr v
  refine ⟨congrArg (·.setFlags f) heq, fun x hx => ?_, hmem⟩
  exact (regRead_congr hx (State.setFlags_regs _ f)).trans (hreg x hx)

/-- A write to M and the flags changes the cell at HL and the flags alone (R151). -/
theorem regWrite_setFlags_memory (s : State) {r : Reg8} (hr : r = .m) (v : Byte) (f : Flags) :
    (s.regWrite r v).setFlags f = { s with mem := ((s.regWrite r v).setFlags f).mem, flags := f } ∧
      StoredByte s ((s.regWrite r v).setFlags f) s.hl v := by
  obtain ⟨heq, hmem⟩ := regWrite_memory s hr v
  exact ⟨congrArg (·.setFlags f) heq, hmem⟩

/-! ## ADD, ADC, SUB and SBB (R200 to R211) -/

/-- The result of an ALU helper goes to A and to Z, S, P, its carries to CY and AC, and nothing else changes (R157). -/
theorem accArith_writes (s : State) (o : AluOut) :
    s.accArith o = { s with regs := (s.accArith o).regs, flags := (s.accArith o).flags } ∧ SameMemory s (s.accArith o) ∧
      WroteReg s (s.accArith o) .a o.r ∧ (s.accArith o).flags.ZspOf (s.accArith o).regs.a ∧
      (s.accArith o).flags.cy = o.cy ∧ (s.accArith o).flags.ac = o.ac := by
  obtain ⟨heq, hreg, hmem⟩ := regWrite_setFlags_register s (r := .a) (by decide) o.r (setArith o.r o.cy o.ac s.flags)
  exact ⟨heq, hmem, hreg, zspOf_setZsp o.r s.flags, rfl, rfl⟩

/-- Settles O8: both write the sum of `add8`, whose carry-in is 0 for ADD and CY for ADC. -/
theorem addAndAdcAddToTheAccumulator : Obligations.AddAndAdcAddToTheAccumulator := by
  intro i s op x bytes h hop
  refine ⟨encode_of_aluForm h, _, exec_of_aluForm h, ?_⟩
  rcases hop with rfl | rfl
  · exact accArith_writes s (add8 s.regs.a x false)
  · exact accArith_writes s (add8 s.regs.a x s.flags.cy)

/-- CY of a subtraction: the subtrahend and the borrow exceed the minuend (R156). -/
theorem sub8_cy (a b : Byte) (c : Bool) : (sub8 a b c).cy = decide (a.toNat < b.toNat + c.toNat) := by
  simp only [sub8, decide_eq_decide]
  omega

/-- AC of a subtraction: the low nibble borrows (R156). -/
theorem sub8_ac (a b : Byte) (c : Bool) :
    (sub8 a b c).ac = decide (a.toNat % 16 < b.toNat % 16 + c.toNat) := by
  simp only [sub8, decide_eq_decide]
  omega

/-- What a subtraction writes, in natural numbers (R156, R157). -/
theorem accArith_sub8_writes (s : State) (x : Byte) (c : Bool) :
    let t := s.accArith (sub8 s.regs.a x c)
    t = { s with regs := t.regs, flags := t.flags } ∧ SameMemory s t ∧
      WroteReg s t .a (BitVec.ofNat 8 (512 + s.regs.a.toNat - x.toNat - c.toNat)) ∧ t.flags.ZspOf t.regs.a ∧
      t.flags.cy = decide (s.regs.a.toNat < x.toNat + c.toNat) ∧
      t.flags.ac = decide (s.regs.a.toNat % 16 < x.toNat % 16 + c.toNat) := by
  rw [← sub8_r, ← sub8_cy, ← sub8_ac]
  exact accArith_writes s _

/-- Settles O9: both write the difference of `sub8`, whose borrow-in is 0 for SUB and CY for SBB. -/
theorem subAndSbbSubtractFromTheAccumulator : Obligations.SubAndSbbSubtractFromTheAccumulator := by
  intro i s op x bytes h hop
  refine ⟨encode_of_aluForm h, _, exec_of_aluForm h, ?_⟩
  rcases hop with rfl | rfl
  · exact accArith_sub8_writes s x false
  · exact accArith_sub8_writes s x s.flags.cy

/-! ## INR and DCR (R212 to R215) -/

theorem encodeForm_inr (r : Reg8) : encodeForm (.inr r) = [BitVec.ofNat 8 (0x04 + 8 * r.code.toNat)] := by
  simp [encodeForm, Form.opcode, Form.operands, opcode233_eq_ofNat, Nat.add_comm]

theorem encodeForm_dcr (r : Reg8) : encodeForm (.dcr r) = [BitVec.ofNat 8 (0x05 + 8 * r.code.toNat)] := by
  simp [encodeForm, Form.opcode, Form.operands, opcode233_eq_ofNat, Nat.add_comm]

/-- AC of an increment: the low nibble was 15 (R212). -/
theorem add8_one_ac (v : Byte) : (add8 v 1#8 false).ac = decide (v.toNat % 16 = 15) := by
  simp only [add8, decide_eq_decide, BitVec.toNat_ofNat, Bool.toNat_false]
  omega

/-- A decrement adds 255 modulo 256 (R214). -/
theorem sub8_one_r (v : Byte) : (sub8 v 1#8 false).r = BitVec.ofNat 8 (v.toNat + 255) := by
  rw [sub8_r]
  apply BitVec.eq_of_toNat_eq
  simp only [BitVec.toNat_ofNat, Bool.toNat_false]
  omega

/-- AC of a decrement: the low nibble was 0 (R214). -/
theorem sub8_one_ac (v : Byte) : (sub8 v 1#8 false).ac = decide (v.toNat % 16 = 0) := by
  rw [sub8_ac, decide_eq_decide]
  simp only [BitVec.toNat_ofNat, Bool.toNat_false]
  omega

/-- What INR and DCR write beside AC: the operand and Z, S, P, not CY (R212, R214). -/
theorem regWrite_setStep_writes (s : State) (r : Reg8) (v : Byte) (ac : Bool) :
    let t := (s.regWrite r v).setFlags (setStep v ac s.flags)
    t.flags.ZspOf v ∧ t.flags.cy = s.flags.cy ∧
      (r ≠ .m → t = { s with regs := t.regs, flags := t.flags } ∧ WroteReg s t r v ∧ SameMemory s t) ∧
      (r = .m → t = { s with mem := t.mem, flags := t.flags } ∧ StoredByte s t s.hl v) :=
  ⟨zspOf_setZsp v s.flags, rfl, fun hr => regWrite_setFlags_register s hr v _,
    fun hm => regWrite_setFlags_memory s hm v _⟩

/-- Settles O13: INR writes the sum with 1, DCR the difference. -/
theorem inrAndDcrStepTheOperandAndKeepCy : Obligations.InrAndDcrStepTheOperandAndKeepCy := by
  rintro i r s (h | h)
  · have hup : i.form = .inr r := h
    refine ⟨_, _, exec_of_form h s, fun _ => ?_, fun hdown => absurd hup hdown, regWrite_setStep_writes s r _ _⟩
    exact ⟨(encode_of_form h).trans (encodeForm_inr r), rfl, add8_one_ac _⟩
  · have hdown : i.form ≠ .inr r := by simp [h]
    refine ⟨_, _, exec_of_form h s, fun hup => absurd hup hdown, fun _ => ?_, regWrite_setStep_writes s r _ _⟩
    exact ⟨(encode_of_form h).trans (encodeForm_dcr r), sub8_one_r _, sub8_one_ac _⟩

/-! ## INX and DCX (R216, R217) -/

theorem encodeForm_inx (rp : RegPair) : encodeForm (.inx rp) = [BitVec.ofNat 8 (0x03 + 16 * rp.code.toNat)] := by
  simp [encodeForm, Form.opcode, Form.operands, opcode224_eq_ofNat, Nat.add_comm]

theorem encodeForm_dcx (rp : RegPair) : encodeForm (.dcx rp) = [BitVec.ofNat 8 (0x0B + 16 * rp.code.toNat)] := by
  simp [encodeForm, Form.opcode, Form.operands, opcode224_eq_ofNat, Nat.add_comm]

/-- A write to a pair changes that pair alone (R152). -/
theorem pairWrite_writes (s : State) (p : RegPair) (w : Word) :
    s.pairWrite p w = { s with regs := (s.pairWrite p w).regs, sp := (s.pairWrite p w).sp } ∧
      SameMemory s (s.pairWrite p w) ∧ (s.pairWrite p w).regs.a = s.regs.a ∧
      ∀ q, (s.pairWrite p w).pairRead q = if q = p then w else s.pairRead q :=
  ⟨pairWrite_eq_with_regs_sp s p w, State.pairWrite_read s p w, State.pairWrite_regs_a s p w,
    fun q => State.pairRead_pairWrite s p q w⟩

/-- Settles O14: both are a write to the pair, of its value plus or minus 1. -/
theorem inxAndDcxStepThePairWithoutFlags : Obligations.InxAndDcxStepThePairWithoutFlags := by
  rintro i rp s (h | h)
  · have hup : i.form = .inx rp := h
    have hnew : s.pairRead rp + 1#16 = BitVec.ofNat 16 ((s.pairRead rp).toNat + 1) := by bv_omega
    refine ⟨_, _, exec_of_form h s, fun _ => ?_, fun hdown => absurd hup hdown, pairWrite_writes s rp _⟩
    exact ⟨(encode_of_form h).trans (encodeForm_inx rp), hnew⟩
  · have hdown : i.form ≠ .inx rp := by simp [h]
    have hnew : s.pairRead rp - 1#16 = BitVec.ofNat 16 ((s.pairRead rp).toNat + 65535) := by bv_omega
    refine ⟨_, _, exec_of_form h s, fun hup => absurd hup hdown, fun _ => ?_, pairWrite_writes s rp _⟩
    exact ⟨(encode_of_form h).trans (encodeForm_dcx rp), hnew⟩

/-! ## DAD (R218) -/

theorem encodeForm_dad (rp : RegPair) : encodeForm (.dad rp) = [BitVec.ofNat 8 (0x09 + 16 * rp.code.toNat)] := by
  simp [encodeForm, Form.opcode, Form.operands, opcode224_eq_ofNat, Nat.add_comm]

/-- The flags are no pair: a pair reads the same after they are written. -/
@[simp] theorem State.setFlags_pairRead (s : State) (f : Flags) (p : RegPair) :
    (s.setFlags f).pairRead p = s.pairRead p := by
  cases p <;> rfl

/-- What DAD leaves in every pair: the sum in HL, the old value elsewhere (R218). -/
theorem pairRead_addToHl (s : State) (p q : RegPair) :
    (s.addToHl p).pairRead q =
      if q = .hl then BitVec.ofNat 16 (s.hl.toNat + (s.pairRead p).toNat) else s.pairRead q := by
  rw [State.addToHl, State.setFlags_pairRead, State.pairRead_pairWrite, add16]

/-- DAD H doubles HL, and CY is the bit shifted out (R218). -/
theorem addToHl_hl_doubles (s : State) :
    (s.addToHl .hl).hl.toNat = 2 * s.hl.toNat % 65536 ∧ ((s.addToHl .hl).flags.cy = true ↔ 65536 ≤ 2 * s.hl.toNat) := by
  have hsum : (s.addToHl .hl).hl = BitVec.ofNat 16 (s.hl.toNat + s.hl.toNat) := pairRead_addToHl s .hl .hl
  have hcy : (s.addToHl .hl).flags.cy = decide (65535 < s.hl.toNat + s.hl.toNat) := rfl
  rw [hsum, hcy, BitVec.toNat_ofNat, decide_eq_true_iff]
  omega

/-- Settles O15: DAD is a write of the sum to HL and of its carry to CY. -/
theorem dadAddsThePairToHl : Obligations.DadAddsThePairToHl := by
  intro i rp s h
  refine ⟨(encode_of_form h).trans (encodeForm_dad rp), _, exec_of_form h s, rfl, fun _ => rfl, rfl,
    pairRead_addToHl s rp, rfl, ?_⟩
  rintro rfl
  exact addToHl_hl_doubles s

/-! ## DAA (R219) -/

/-- `A` after the low correction of DAA, not reduced: the `t` of R219. -/
def daaLow (a : Byte) (f : Flags) : Nat := a.toNat + if 9 < a.toNat % 16 ∨ f.ac = true then 6 else 0

theorem daaLow_eq_ite (a : Byte) (f : Flags) :
    daaLow a f = if (decide (a.toNat % 16 > 9) || f.ac) = true then a.toNat + 6 else a.toNat := by
  simp [daaLow, add_ite]

/-- The high correction is made when the high digit is no decimal digit or CY was set (R219). -/
theorem daaAdjust_r (a : Byte) (f : Flags) :
    (daaAdjust a f).r = BitVec.ofNat 8 (daaLow a f + if 9 < daaLow a f / 16 ∨ f.cy = true then 96 else 0) := by
  simp only [daaAdjust, ← daaLow_eq_ite]
  simp [add_ite]

/-- CY after DAA is the high correction, which CY itself forces (R219). -/
theorem daaAdjust_cy (a : Byte) (f : Flags) :
    (daaAdjust a f).cy = decide (9 < daaLow a f / 16 ∨ f.cy = true) := by
  simp only [daaAdjust, ← daaLow_eq_ite]
  cases f.cy <;> simp

/-- AC after DAA is the carry of the low correction (R219). -/
theorem daaAdjust_ac (a : Byte) (f : Flags) : (daaAdjust a f).ac = decide (9 < a.toNat % 16) := by
  simp only [daaAdjust]
  cases f.ac <;> simp

/-- Settles O16: DAA writes A and the flags as an addition does, with the corrected byte and the carries of the corrections. -/
theorem daaCorrectsBothNibbles : Obligations.DaaCorrectsBothNibbles := by
  intro i s h
  obtain ⟨heq, hmem, hreg, hzsp, hcy, hac⟩ := accArith_writes s (daaAdjust s.regs.a s.flags)
  rw [daaAdjust_r] at hreg
  rw [daaAdjust_cy, Bool.eq_iff_iff, decide_eq_true_iff] at hcy
  rw [daaAdjust_ac, Bool.eq_iff_iff, decide_eq_true_iff] at hac
  exact ⟨encode_of_form h, _, exec_of_form h s, heq, hmem, hreg, hzsp,
    hcy.trans (or_iff_right_of_imp Or.inr).symm, hac.trans (and_iff_right_of_imp Or.inl).symm⟩

/-! ## Decimal addition -/

/-- A packed decimal: both nibbles are decimal digits (00_scope.md section 6). -/
def IsBcd (v : Byte) : Prop := v.toNat / 16 ≤ 9 ∧ v.toNat % 16 ≤ 9

/-- The number a packed decimal stands for. -/
def bcdValue (v : Byte) : Nat := 10 * (v.toNat / 16) + v.toNat % 16

theorem bcdValue_le {v : Byte} (h : IsBcd v) : bcdValue v ≤ 99 := by
  obtain ⟨hhigh, hlow⟩ := h
  rw [bcdValue]
  omega

/-- After an addition DAA makes the low correction exactly when the decimal sum of the low digits carries. -/
theorem daaLow_add8 {a b : Byte} (ha : IsBcd a) (hb : IsBcd b) (c : Bool) {f : Flags} (hac : f.ac = (add8 a b c).ac) :
    daaLow (add8 a b c).r f =
      (a.toNat + b.toNat + c.toNat) % 256 + if 9 < a.toNat % 16 + b.toNat % 16 + c.toNat then 6 else 0 := by
  obtain ⟨ha1, ha0⟩ := ha
  obtain ⟨hb1, hb0⟩ := hb
  have hc := c.toNat_le
  have hcond : (9 < (add8 a b c).r.toNat % 16 ∨ f.ac = true) ↔ 9 < a.toNat % 16 + b.toNat % 16 + c.toNat := by
    simp only [hac, add8, BitVec.toNat_ofNat, decide_eq_true_eq]
    omega
  simp only [daaLow, hcond]
  simp [add8]

/-- After an addition DAA makes the high correction exactly when the decimal sum exceeds 99. -/
theorem daaHigh_add8_iff {a b : Byte} (ha : IsBcd a) (hb : IsBcd b) (c : Bool) {f : Flags}
    (hac : f.ac = (add8 a b c).ac) (hcy : f.cy = (add8 a b c).cy) :
    (9 < daaLow (add8 a b c).r f / 16 ∨ f.cy = true) ↔ 99 < bcdValue a + bcdValue b + c.toNat := by
  rw [daaLow_add8 ha hb c hac]
  obtain ⟨ha1, ha0⟩ := ha
  obtain ⟨hb1, hb0⟩ := hb
  have hc := c.toNat_le
  simp only [hcy, add8, decide_eq_true_eq, bcdValue]
  split <;> omega

/-- The two corrections turn the sum of the high and the low digits in base 16 into the decimal digits of the sum in base 10. -/
theorem decimal_correction {high low : Nat} (hhigh : high ≤ 18) (hlow : low ≤ 19) :
    ((16 * high + low) % 256 + (if 9 < low then 6 else 0) + if 99 < 10 * high + low then 96 else 0) % 256 =
      16 * ((10 * high + low) / 10 % 10) + (10 * high + low) % 10 := by
  split <;> split <;> omega

/-- DAA after an addition of packed decimals leaves the two low digits of the decimal sum. -/
theorem toNat_daaAdjust_add8 {a b : Byte} (ha : IsBcd a) (hb : IsBcd b) (c : Bool) {f : Flags}
    (hac : f.ac = (add8 a b c).ac) (hcy : f.cy = (add8 a b c).cy) :
    (daaAdjust (add8 a b c).r f).r.toNat =
      16 * ((bcdValue a + bcdValue b + c.toNat) / 10 % 10) + (bcdValue a + bcdValue b + c.toNat) % 10 := by
  simp only [daaAdjust_r, daaHigh_add8_iff ha hb c hac hcy]
  rw [daaLow_add8 ha hb c hac, BitVec.toNat_ofNat]
  have hbinary : a.toNat + b.toNat + c.toNat =
      16 * (a.toNat / 16 + b.toNat / 16) + (a.toNat % 16 + b.toNat % 16 + c.toNat) := by omega
  have hdecimal : bcdValue a + bcdValue b + c.toNat =
      10 * (a.toNat / 16 + b.toNat / 16) + (a.toNat % 16 + b.toNat % 16 + c.toNat) := by
    rw [bcdValue, bcdValue]
    omega
  rw [hbinary, hdecimal]
  obtain ⟨ha1, ha0⟩ := ha
  obtain ⟨hb1, hb0⟩ := hb
  exact decimal_correction (Nat.add_le_add ha1 hb1) (Nat.add_le_add (Nat.add_le_add ha0 hb0) c.toNat_le)

/-- DAA after an addition of packed decimals with carry-in: the decimal sum, its hundreds digit in CY. -/
theorem daaAdjust_add8 {a b : Byte} (ha : IsBcd a) (hb : IsBcd b) (c : Bool) {f : Flags}
    (hac : f.ac = (add8 a b c).ac) (hcy : f.cy = (add8 a b c).cy) :
    IsBcd (daaAdjust (add8 a b c).r f).r ∧
      bcdValue (daaAdjust (add8 a b c).r f).r + 100 * (daaAdjust (add8 a b c).r f).cy.toNat =
        bcdValue a + bcdValue b + c.toNat := by
  have hr := toNat_daaAdjust_add8 ha hb c hac hcy
  have hcarry : (daaAdjust (add8 a b c).r f).cy = decide (99 < bcdValue a + bcdValue b + c.toNat) := by
    rw [daaAdjust_cy, decide_eq_decide]
    exact daaHigh_add8_iff ha hb c hac hcy
  have hsum : bcdValue a + bcdValue b + c.toNat ≤ 199 :=
    Nat.add_le_add (Nat.add_le_add (bcdValue_le ha) (bcdValue_le hb)) c.toNat_le
  rw [hcarry, IsBcd, bcdValue, hr]
  generalize bcdValue a + bcdValue b + c.toNat = sum at hsum
  by_cases hhundred : 99 < sum
  · simp only [hhundred, decide_true, Bool.toNat_true]
    omega
  · simp only [hhundred, decide_false, Bool.toNat_false]
    omega

/-- Settles O17: the addition hands DAA its carries, and DAA's two corrections are the two decimal carries. -/
theorem daaAfterAdditionIsDecimalAddition : Obligations.DaaAfterAdditionIsDecimalAddition := by
  intro i s op x bytes h hop bcd value ha hx
  refine ⟨_, _, exec_of_aluForm h, exec_eq _ _, ?_⟩
  rcases hop with rfl | rfl
  · exact daaAdjust_add8 ha hx false rfl rfl
  · exact daaAdjust_add8 ha hx s.flags.cy rfl rfl

end Sys2Proof.Machine
end

section
/-! SUPPORT. The rotations of a bit vector by one bit as numbers, what a logical operation, a compare and a rotate change, and the
statements of 43_logical.md that follow. -/

namespace Sys2Proof.Machine

/-! ## ANA, XRA and ORA (R230 to R238) -/

/-- The result of a logical operation goes to A and to Z, S, P, CY is cleared, AC is the given bit, and nothing else changes (R157). -/
theorem accLogic_writes (s : State) (r : Byte) (ac : Bool) :
    s.accLogic r ac = { s with regs := (s.accLogic r ac).regs, flags := (s.accLogic r ac).flags } ∧
      SameMemory s (s.accLogic r ac) ∧ WroteReg s (s.accLogic r ac) .a r ∧
      (s.accLogic r ac).flags.ZspOf (s.accLogic r ac).regs.a ∧
      (s.accLogic r ac).flags.cy = false ∧ (s.accLogic r ac).flags.ac = ac := by
  obtain ⟨heq, hreg, hmem⟩ := regWrite_setFlags_register s (r := .a) (by decide) r (setLogic r ac s.flags)
  exact ⟨heq, hmem, hreg, zspOf_setZsp r s.flags, rfl, rfl⟩

/-- Settles O11: the logical operation is AND, with the hardware's AND_AC for AC. -/
theorem anaAndsIntoTheAccumulator : Obligations.AnaAndsIntoTheAccumulator := by
  intro i s x bytes h
  obtain ⟨heq, hmem, hreg, hzsp, hcy, hac⟩ := accLogic_writes s (s.regs.a &&& x) s.params.andAc
  have hhardware (hp : s.params = Params.hardware) : s.params.andAc = false := congrArg Params.andAc hp
  exact ⟨encode_of_aluForm h, _, exec_of_aluForm h, heq, hmem, hreg, hzsp, hcy, hac, fun hp => hac.trans (hhardware hp)⟩

/-- Settles O12: the logical operation is XOR or OR, with 0 for AC. -/
theorem xraAndOraCombineIntoTheAccumulator : Obligations.XraAndOraCombineIntoTheAccumulator := by
  intro i s op x bytes h hop
  refine ⟨encode_of_aluForm h, _, exec_of_aluForm h, ?_⟩
  rcases hop with rfl | rfl
  · exact accLogic_writes s (s.regs.a ^^^ x) false
  · exact accLogic_writes s (s.regs.a ||| x) false

/-! ## CMP (R239 to R241) -/

/-- Z of a compare: A and the operand are equal (R239). -/
theorem compareA_z (s : State) (x : Byte) : (s.compareA x).flags.z = decide (s.regs.a = x) := by
  have hz : (s.compareA x).flags.z = decide ((sub8 s.regs.a x false).r = 0#8) := beq_eq_decide _ _
  rw [hz, sub8_r, decide_eq_decide, Bool.toNat_false]
  bv_omega

/-- Settles O10: a compare writes the flags of the subtraction without borrow-in, and no register. -/
theorem cmpWritesTheFlagsOfTheDifference : Obligations.CmpWritesTheFlagsOfTheDifference := by
  intro i s x bytes h
  have hr : (sub8 s.regs.a x false).r = BitVec.ofNat 8 (256 + s.regs.a.toNat - x.toNat) := by
    rw [sub8_r, Bool.toNat_false]
    bv_omega
  have hzsp : (s.compareA x).flags.ZspOf (sub8 s.regs.a x false).r := zspOf_setZsp _ s.flags
  exact ⟨encode_of_aluForm h, _, exec_of_aluForm h, rfl, fun _ => rfl, hr ▸ hzsp, compareA_z s x,
    sub8_cy s.regs.a x false, sub8_ac s.regs.a x false⟩

/-! ## RLC, RRC, RAL and RAR (R242 to R245) -/

/-- A rotation left by one doubles the number, and the bit shifted out comes in below. -/
theorem toNat_rotateLeft_one {n : Nat} (x : BitVec (n + 2)) :
    (x.rotateLeft 1).toNat = 2 * x.toNat % 2 ^ (n + 2) + x.toNat / 2 ^ (n + 1) := by
  have hlow : x.toNat / 2 ^ (n + 1) < 2 ^ 1 := Nat.div_lt_of_lt_mul (by rw [← pow_add]; exact x.isLt)
  have hhigh : 2 * x.toNat % 2 ^ (n + 2) = 2 ^ 1 * (x.toNat % 2 ^ (n + 1)) := by
    rw [pow_succ', Nat.mul_mod_mul_left, pow_one]
  rw [BitVec.toNat_rotateLeft, Nat.mod_eq_of_lt (by omega : 1 < n + 2), Nat.shiftLeft_eq, pow_one, mul_comm x.toNat,
    Nat.shiftRight_eq_div_pow, show n + 2 - 1 = n + 1 from rfl, hhigh, Nat.two_pow_add_eq_or_of_lt hlow]

/-- A rotation right by one halves the number, and the bit shifted out comes in on top. -/
theorem toNat_rotateRight_one {n : Nat} (x : BitVec (n + 2)) :
    (x.rotateRight 1).toNat = x.toNat / 2 + 2 ^ (n + 1) * (x.toNat % 2) := by
  have hlow : x.toNat / 2 < 2 ^ (n + 1) := Nat.div_lt_of_lt_mul (by rw [← pow_succ']; exact x.isLt)
  have hhigh : 2 ^ (n + 1) * x.toNat % 2 ^ (n + 2) = 2 ^ (n + 1) * (x.toNat % 2) := by
    rw [pow_succ 2 (n + 1), Nat.mul_mod_mul_left]
  rw [BitVec.toNat_rotateRight, Nat.mod_eq_of_lt (by omega : 1 < n + 2), Nat.shiftRight_eq_div_pow, pow_one,
    Nat.shiftLeft_eq, mul_comm x.toNat, show n + 2 - 1 = n + 1 from rfl, hhigh, Nat.lor_comm, add_comm (x.toNat / 2),
    Nat.two_pow_add_eq_or_of_lt hlow]

theorem toNat_bitOf_0 (v : Byte) : (bitOf v 0).toNat = v.toNat % 2 := by
  rw [bitOf, BitVec.getLsbD, Nat.toNat_testBit, pow_zero, Nat.div_one]

theorem toNat_bitOf_7 (v : Byte) : (bitOf v 7).toNat = v.toNat / 128 := by
  rw [bitOf, BitVec.getLsbD, Nat.toNat_testBit]
  omega

/-- CY on top of a byte, the 9-bit value of R244 and R245. -/
theorem toNat_ofBool_append (cy : Bool) (v : Byte) : (BitVec.ofBool cy ++ v).toNat = 256 * cy.toNat + v.toNat := by
  rw [BitVec.toNat_append, BitVec.toNat_ofBool, Nat.shiftLeft_eq, mul_comm, ← Nat.two_pow_add_eq_or_of_lt v.isLt]

/-- RLC rotates the byte (R242). -/
theorem rotLeft_fst (a : Byte) : (rotLeft a).1 = a.rotateLeft 1 := by
  apply BitVec.eq_of_toNat_eq
  rw [toNat_rotateLeft_one, rotLeft, BitVec.toNat_ofNat, toNat_bitOf_7]
  omega

/-- RRC rotates the byte (R243). -/
theorem rotRight_fst (a : Byte) : (rotRight a).1 = a.rotateRight 1 := by
  apply BitVec.eq_of_toNat_eq
  rw [toNat_rotateRight_one, rotRight, BitVec.toNat_ofNat, toNat_bitOf_0]
  omega

/-- RAL rotates the 9-bit value (R244). -/
theorem rotLeftCy_append (a : Byte) (cy : Bool) :
    BitVec.ofBool (rotLeftCy a cy).2 ++ (rotLeftCy a cy).1 = (BitVec.ofBool cy ++ a).rotateLeft 1 := by
  apply BitVec.eq_of_toNat_eq
  rw [toNat_rotateLeft_one, toNat_ofBool_append, toNat_ofBool_append, rotLeftCy, BitVec.toNat_ofNat, toNat_bitOf_7]
  cases cy
  · rw [Bool.toNat_false]
    omega
  · rw [Bool.toNat_true]
    omega

/-- RAR rotates the 9-bit value (R245). -/
theorem rotRightCy_append (a : Byte) (cy : Bool) :
    BitVec.ofBool (rotRightCy a cy).2 ++ (rotRightCy a cy).1 = (BitVec.ofBool cy ++ a).rotateRight 1 := by
  apply BitVec.eq_of_toNat_eq
  have hcy := cy.toNat_le
  rw [toNat_rotateRight_one, toNat_ofBool_append, toNat_ofBool_append, rotRightCy, BitVec.toNat_ofNat, toNat_bitOf_0]
  omega

/-- Settles O18: every rotate writes A and CY alone, with the rotated pair of its helper. -/
theorem rotatesMoveABitThroughCarry : Obligations.RotatesMoveABitThroughCarry := by
  rintro i s (h | h | h | h)
  all_goals
    refine ⟨_, exec_of_form h s, rfl, fun _ => rfl, rfl, rfl, ?_⟩
    simp only [h, reduceCtorEq, false_imp_iff, true_imp_iff, and_true, true_and]
  · exact ⟨encode_of_form h, rotLeft_fst s.regs.a, rfl⟩
  · exact ⟨encode_of_form h, rotRight_fst s.regs.a, rfl⟩
  · exact ⟨encode_of_form h, rotLeftCy_append s.regs.a s.flags.cy⟩
  · exact ⟨encode_of_form h, rotRightCy_append s.regs.a s.flags.cy⟩

/-! ## CMA, CMC and STC (R246 to R248) -/

/-- CMA is its own inverse (R246). -/
theorem formEffect_cma_cma (s : State) : formEffect .cma (formEffect .cma s) = s := by
  have ha : BitVec.ofNat 8 (255 - (BitVec.ofNat 8 (255 - s.regs.a.toNat)).toNat) = s.regs.a := by bv_omega
  exact congrArg (fun a => s.setRegs { s.regs with a := a }) ha

/-- CMC is its own inverse (R247). -/
theorem formEffect_cmc_cmc (s : State) : formEffect .cmc (formEffect .cmc s) = s :=
  congrArg (fun cy => s.setFlags (setCy cy s.flags)) (Bool.not_not s.flags.cy)

/-- Settles O19: CMA is a write of the complement to A, CMC and STC are a write to CY. -/
theorem cmaCmcStcComplement : Obligations.CmaCmcStcComplement := by
  refine ⟨fun i s h => ?_, fun i s h => ?_, fun i s h => ?_⟩
  · obtain ⟨heq, hreg, hmem⟩ := regWrite_register s (r := .a) (by decide) (BitVec.ofNat 8 (255 - s.regs.a.toNat))
    have htwice : exec i (formEffect .cma s) = .next s := by rw [exec_of_form h, formEffect_cma_cma]
    exact ⟨encode_of_form h, _, exec_of_form h s, heq, hmem, hreg, htwice⟩
  · have htwice : exec i (formEffect .cmc s) = .next s := by rw [exec_of_form h, formEffect_cmc_cmc]
    exact ⟨encode_of_form h, _, exec_of_form h s, rfl, fun _ => rfl, htwice⟩
  · exact ⟨encode_of_form h, _, exec_of_form h s, rfl, fun _ => rfl⟩

end Sys2Proof.Machine
end

section
/-! SUPPORT. A conditional branch as a choice between the branch and the state it was given, what a call, a return and a pop change, and
the statements of 44_branch.md that follow. -/

namespace Sys2Proof.Machine

/-! ## POP after PUSH (R270, R271, R280 to R283) -/

/-- The value of a stack pair; PSW is no pair of two registers and has none here. -/
def State.stackPairRead (s : State) : StackPair → Word
  | .bc => s.bc
  | .de => s.de
  | .hl => s.hl
  | .psw => 0#16

/-- A push leaves every pair (R270). -/
@[simp] theorem State.stackPairRead_push16 (s : State) (w : Word) (p : StackPair) :
    (s.push16 w).stackPairRead p = s.stackPairRead p := by
  cases p <;> rfl

/-- PUSH of a pair of two registers pushes its value (R280). -/
theorem formEffect_push {p : StackPair} (hp : p ≠ .psw) (s : State) :
    formEffect (.push p) s = s.push16 (s.stackPairRead p) := by
  cases p
  case psw => exact absurd rfl hp
  all_goals rfl

/-- Every POP raises SP by 2 (R271). -/
@[simp] theorem formEffect_pop_sp (p : StackPair) (s : State) : (formEffect (.pop p) s).sp = s.sp + 2#16 := by
  cases p <;> rfl

section
variable {p : StackPair} (hp : p ≠ .psw)
include hp

/-- POP of a pair of two registers leaves the flags (R282). -/
theorem formEffect_pop_flags (s : State) : (formEffect (.pop p) s).flags = s.flags := by
  cases p
  case psw => exact absurd rfl hp
  all_goals rfl

/-- POP of a pair of two registers leaves the word at SP in that pair and every other pair as it was (R282). -/
theorem stackPairRead_formEffect_pop (s : State) (r : StackPair) :
    (formEffect (.pop p) s).stackPairRead r = if r = p then s.popWord else s.stackPairRead r := by
  cases p
  case psw => exact absurd rfl hp
  all_goals cases r
  case bc.bc | de.de | hl.hl => exact cat_hi8_lo8 s.popWord
  all_goals rfl

/-- POP after a push of `w` leaves `w` in the popped pair and every other pair as it was before the push. -/
theorem stackPairRead_formEffect_pop_push16 (s : State) (w : Word) (r : StackPair) :
    (formEffect (.pop p) (s.push16 w)).stackPairRead r = if r = p then w else s.stackPairRead r := by
  rw [stackPairRead_formEffect_pop hp, State.popWord_push16, State.stackPairRead_push16]

end

@[simp] theorem State.popWord_countDraw (s : State) : s.countDraw.popWord = s.popWord := rfl

@[simp] theorem State.pushPswWith_regs (s : State) (fill : BitVec 3) : (s.pushPswWith fill).regs = s.regs := rfl

@[simp] theorem State.pushPswWith_sp (s : State) (fill : BitVec 3) : (s.pushPswWith fill).sp = s.sp - 2#16 := rfl

/-- PUSH PSW leaves A and the flag byte on top of the stack (R281). -/
@[simp] theorem State.popWord_pushPswWith (s : State) (fill : BitVec 3) :
    (s.pushPswWith fill).popWord = cat s.regs.a (packFlags fill s.flags) :=
  State.popWord_push16 s _

/-- POP PSW after PUSH PSW restores the registers, the flags and SP: the fill bits are discarded (R41, R283). -/
theorem formEffect_popPsw_pushPswWith (s : State) (fill : BitVec 3) :
    let u := formEffect (.pop .psw) (s.pushPswWith fill).countDraw
    u.regs = s.regs ∧ u.flags = s.flags ∧ u.sp = s.sp := by
  refine ⟨?_, ?_, ?_⟩
  · simp [formEffect, State.popPswWord]
  · simp [formEffect, State.popPswWord, unpackFlags_packFlags]
  · simp

/-- Settles O46: the word a POP takes is the word the PUSH before it stored. -/
theorem pushThenPopRestores : Obligations.PushThenPopRestores := by
  refine ⟨fun s => ⟨_, _, exec_eq .pushPsw s, exec_eq .popPsw _, formEffect_popPsw_pushPswWith s _⟩,
    fun s i j p q hi hj hp hq => ?_⟩
  have hpush : exec i s = .next (s.push16 (s.stackPairRead p)) := by rw [exec_of_form hi, formEffect_push hp]
  have hpairs := stackPairRead_formEffect_pop_push16 hq s (s.stackPairRead p)
  have hsp : (formEffect (.pop q) (s.push16 (s.stackPairRead p))).sp = s.sp := by simp
  exact ⟨_, _, hpush, exec_of_form hj _, hsp, formEffect_pop_flags hq _, (hpairs q).trans (if_pos rfl),
    fun r hr => (hpairs r).trans (if_neg hr)⟩

/-! ## Conditional branches (R158, R261, R263, R265) -/

/-- A choice on `cond(ccc)` answers by the condition as its name says it (R104). -/
theorem ite_condHolds (cond : Cond) (s taken : State) :
    (CondTrue cond s.flags → (if condHolds cond s.flags then taken else s) = taken) ∧
      (¬CondTrue cond s.flags → (if condHolds cond s.flags then taken else s) = s) :=
  ⟨fun h => if_pos ((condTrue_iff cond s.flags).mp h), fun h => if_neg (mt (condTrue_iff cond s.flags).mpr h)⟩

theorem jumpIf_eq (s : State) (cond : Cond) (a16 : Word) :
    (CondTrue cond s.flags → s.jumpIf cond a16 = s.setPc a16) ∧ (¬CondTrue cond s.flags → s.jumpIf cond a16 = s) :=
  ite_condHolds cond s _

theorem callIf_eq (s : State) (cond : Cond) (a16 : Word) :
    (CondTrue cond s.flags → s.callIf cond a16 = s.callTo a16) ∧ (¬CondTrue cond s.flags → s.callIf cond a16 = s) :=
  ite_condHolds cond s _

theorem returnIf_eq (s : State) (cond : Cond) :
    (CondTrue cond s.flags → s.returnIf cond = s.returnFrom) ∧ (¬CondTrue cond s.flags → s.returnIf cond = s) :=
  ite_condHolds cond s _

/-- A form that stores to no cell leaves every byte of memory (R80). -/
theorem sameMemory_formEffect {f : Form} {s : State} (h : storedCells s f = []) : SameMemory s (formEffect f s) :=
  fun _ => formEffect_read_of_notMem_storedCells f s (h ▸ List.not_mem_nil)

/-! ## Jumps (R260, R261, R267) -/

theorem encodeForm_jcond (cond : Cond) (a16 : Word) :
    encodeForm (.jcond cond a16) = [BitVec.ofNat 8 (0xC2 + 8 * cond.code.toNat), lo8 a16, hi8 a16] := by
  simp [encodeForm, Form.opcode, Form.operands, wordBytes, opcode233_eq_ofNat, Nat.add_right_comm]

/-- Settles O20: a jump is a write of its target to PC, a conditional one a choice between that and no change. -/
theorem jumpsSetPc : Obligations.JumpsSetPc :=
  ⟨fun _ _ s h => ⟨encode_of_form h, _, exec_of_form h s, rfl, fun _ => rfl⟩,
    fun _ s h => ⟨encode_of_form h, _, exec_of_form h s, rfl, fun _ => rfl⟩,
    fun _ cond a16 s h => ⟨(encode_of_form h).trans (encodeForm_jcond cond a16), _, exec_of_form h s,
      sameMemory_formEffect rfl, jumpIf_eq s cond a16⟩⟩

/-! ## Calls (R262, R263, R266) -/

theorem encodeForm_ccond (cond : Cond) (a16 : Word) :
    encodeForm (.ccond cond a16) = [BitVec.ofNat 8 (0xC4 + 8 * cond.code.toNat), lo8 a16, hi8 a16] := by
  simp [encodeForm, Form.opcode, Form.operands, wordBytes, opcode233_eq_ofNat, Nat.add_right_comm]

theorem encodeForm_rst (n : BitVec 3) : encodeForm (.rst n) = [BitVec.ofNat 8 (0xC7 + 8 * n.toNat)] := by
  simp [encodeForm, Form.opcode, Form.operands, opcode233_eq_ofNat, Nat.add_right_comm]

/-- A call changes PC, SP and the two cells below SP, which take the PC it was given (R262). -/
theorem callTo_writes (s : State) (target : Word) :
    s.callTo target = { s with pc := target, sp := s.sp - 2#16, mem := (s.callTo target).mem } ∧
      StoredWord s (s.callTo target) (s.sp - 2#16) (lo8 s.pc) (hi8 s.pc) :=
  ⟨rfl, storedWord_push16 s s.pc⟩

/-- Settles O21: an RST is a call. -/
theorem callAndRstPushThenJump : Obligations.CallAndRstPushThenJump := by
  refine ⟨fun i a16 s h => ⟨encode_of_form h, _, exec_of_form h s, callTo_writes s a16⟩, fun i n s h => ?_⟩
  have hrst : exec i s = .next (s.callTo (BitVec.ofNat 16 (8 * n.toNat))) := by
    rw [exec_of_form h, formEffect, State.restart, Nat.mul_comm]
  exact ⟨(encode_of_form h).trans (encodeForm_rst n), _, hrst, callTo_writes s _⟩

/-- Settles O22: a conditional call is a choice between the call and no change. -/
theorem conditionalCallPushesOnlyWhenTaken : Obligations.ConditionalCallPushesOnlyWhenTaken := by
  intro i cond a16 s h
  obtain ⟨htaken, hnot⟩ := callIf_eq s cond a16
  refine ⟨(encode_of_form h).trans (encodeForm_ccond cond a16), s.callIf cond a16, exec_of_form h s, fun hc => ?_, hnot⟩
  rw [htaken hc]
  exact callTo_writes s a16

/-! ## Returns (R264, R265) -/

theorem encodeForm_rcond (cond : Cond) : encodeForm (.rcond cond) = [BitVec.ofNat 8 (0xC0 + 8 * cond.code.toNat)] := by
  simp [encodeForm, Form.opcode, Form.operands, opcode233_eq_ofNat]

/-- Settles O23: a return is a pop to PC, a conditional one a choice between that and no change. -/
theorem returnsPopPc : Obligations.ReturnsPopPc :=
  ⟨fun _ s h => ⟨encode_of_form h, _, exec_of_form h s, rfl, fun _ => rfl⟩,
    fun _ cond s h => ⟨(encode_of_form h).trans (encodeForm_rcond cond), _, exec_of_form h s,
      sameMemory_formEffect rfl, returnIf_eq s cond⟩⟩

end Sys2Proof.Machine
end

section
/-! SUPPORT. A word stored in memory as its two bytes, the bytes of a popped word, the byte RIM reads bit by bit, the step that fetches HLT,
and the statements of 45_stack_io_control.md that follow. -/

namespace Sys2Proof.Machine

/-! ## PUSH (R280, R281) -/

/-- A word stored from `a` on stands there with its low byte first (R76). -/
theorem storedWord_write16_cat (s : State) (a : Word) (hi lo : Byte) :
    StoredWord s (s.write16 a (cat hi lo)) a lo hi := by
  rw [State.write16, lo8_cat, hi8_cat]
  exact storedWord_write s a lo hi

/-- A pushed word stands below SP with its low byte first (R270). -/
theorem storedWord_push16_cat (s : State) (hi lo : Byte) :
    StoredWord s (s.push16 (cat hi lo)) (s.sp - 2#16) lo hi :=
  storedWord_write16_cat (s.setSp (s.sp - 2#16)) _ hi lo

theorem encodeForm_push (rp : StackPair) : encodeForm (.push rp) = [BitVec.ofNat 8 (0xC5 + 16 * rp.code.toNat)] := by
  simp [encodeForm, Form.opcode, Form.operands, opcode224_eq_ofNat, Nat.add_right_comm]

/-- Settles O24: PUSH of a pair of two registers is a push of its value, which is its high and its low register. -/
theorem pushStoresThePair : Obligations.PushStoresThePair := by
  intro i rp s h hrp
  have hexec : exec i s = .next (s.push16 (s.stackPairRead rp)) := by rw [exec_of_form h, formEffect_push hrp]
  refine ⟨(encode_of_form h).trans (encodeForm_push rp), _, hexec, rfl, ?_, ?_, ?_⟩
  all_goals
    rintro rfl
    exact storedWord_push16_cat s _ _

/-- Settles O25: PUSH PSW is a push of A and the packed flags, with the draw in the bits that are no flag. -/
theorem pushPswStoresAAndTheFlagByte : Obligations.PushPswStoresAAndTheFlagByte := by
  refine ⟨fun i s h => ?_, fun _ => ⟨rfl, rfl, rfl, rfl, rfl⟩⟩
  exact ⟨encode_of_form h, _, packFlags (Config.pswFill s.draws) s.flags, exec_of_form h s, rfl,
    storedWord_push16_cat s _ _, packFlags_bits _ _ _ _ _ _⟩

/-! ## POP (R282, R283) -/

@[simp] theorem State.hi8_popWord (s : State) : hi8 s.popWord = s.read (s.sp + 1#16) := hi8_cat _ _

@[simp] theorem State.lo8_popWord (s : State) : lo8 s.popWord = s.read s.sp := lo8_cat _ _

theorem encodeForm_pop (rp : StackPair) : encodeForm (.pop rp) = [BitVec.ofNat 8 (0xC1 + 16 * rp.code.toNat)] := by
  simp [encodeForm, Form.opcode, Form.operands, opcode224_eq_ofNat, Nat.add_right_comm]

/-- A POP changes SP, the register file and the flags alone (R282, R283). -/
theorem formEffect_pop_eq_with_sp_regs_flags (p : StackPair) (s : State) :
    formEffect (.pop p) s =
      { s with sp := s.sp + 2#16, regs := (formEffect (.pop p) s).regs, flags := (formEffect (.pop p) s).flags } := by
  cases p <;> rfl

/-- Settles O26: a POP takes its high register, or A, from the high byte of the word at SP, and its low register, or the flags, from the low
byte. -/
theorem popLoadsThePair : Obligations.PopLoadsThePair := by
  intro i rp s h lo hi
  refine ⟨(encode_of_form h).trans (encodeForm_pop rp), _, exec_of_form h s,
    formEffect_pop_eq_with_sp_regs_flags rp s, sameMemory_formEffect rfl, fun hrp => formEffect_pop_flags hrp s, ?_, ?_, ?_, ?_⟩
  all_goals rintro rfl
  case refine_4 => simp [formEffect, State.popPswWord, unpackFlags, bitOf, lo, hi]
  all_goals simp [formEffect, State.popPair, State.pairWrite, lo, hi]

/-! ## XTHL and SPHL (R284, R285) -/

/-- XTHL loads HL from the word at SP (R284). -/
theorem exchangeTopHl_regs (s : State) :
    s.exchangeTopHl.regs = { s.regs with h := s.read (s.sp + 1#16), l := s.read s.sp } := by
  simp [State.exchangeTopHl, State.pairWrite, State.read16]

/-- Settles O27: XTHL stores HL where it loaded the new one from, SPHL is a write of HL to SP. -/
theorem xthlExchangesAndSphlCopies : Obligations.XthlExchangesAndSphlCopies :=
  ⟨fun _ s h => ⟨encode_of_form h, _, exec_of_form h s, rfl, exchangeTopHl_regs s,
      storedWord_write16_cat s s.sp s.regs.h s.regs.l⟩,
    fun _ s h => ⟨encode_of_form h, _, exec_of_form h s, rfl, fun _ => rfl⟩⟩

/-! ## IN and OUT (R286, R287) -/

/-- Settles O28: IN writes the draw to A and logs it, OUT logs A. -/
theorem inDrawsAByteAndOutLogsOne : Obligations.InDrawsAByteAndOutLogsOne :=
  ⟨fun _ _ s h => ⟨encode_of_form h, _, _, exec_of_form h s, rfl, sameMemory_formEffect rfl, rfl⟩,
    fun _ _ s h => ⟨encode_of_form h, _, exec_of_form h s, sameMemory_formEffect rfl, rfl⟩⟩

/-! ## EI, DI, RIM and SIM (R288, R289, R292, R293) -/

/-- Settles O29: both are a write to INTE. -/
theorem eiAndDiSetInte : Obligations.EiAndDiSetInte := by
  rintro i s (h | h)
  · have hne : i.form ≠ .di := by simp [h]
    exact ⟨_, exec_of_form h s, sameMemory_formEffect rfl, fun _ => ⟨encode_of_form h, rfl⟩, fun hdi => absurd hdi hne⟩
  · have hne : i.form ≠ .ei := by simp [h]
    exact ⟨_, exec_of_form h s, sameMemory_formEffect rfl, fun hei => absurd hei hne, fun _ => ⟨encode_of_form h, rfl⟩⟩

/-- The bits of the byte RIM reads (R292). -/
theorem rimByte_bits : ∀ (sid inte m55 m65 m75 i75 sod : Bool),
    let v := rimByte sid ⟨inte, m55, m65, m75, i75, sod⟩
    v.getLsbD 7 = sid ∧ v.getLsbD 6 = i75 ∧ v.getLsbD 5 = false ∧ v.getLsbD 4 = false ∧ v.getLsbD 3 = inte ∧
      v.getLsbD 2 = m75 ∧ v.getLsbD 1 = m65 ∧ v.getLsbD 0 = m55 := by
  decide

/-- Settles O30: RIM is a write to A, of the byte whose bits are the draw and the control bits. -/
theorem rimReadsTheControlBits : Obligations.RimReadsTheControlBits := fun _ s h =>
  ⟨encode_of_form h, _, exec_of_form h s, rfl, sameMemory_formEffect rfl,
    rimByte_bits (Config.sidRead s.draws) _ _ _ _ _ s.ctl.sod⟩

/-- Settles O31: SIM is a write to the control bits, each chosen by its enable bit. -/
theorem simWritesTheEnabledControlBits : Obligations.SimWritesTheEnabledControlBits := by
  intro i s h
  refine ⟨encode_of_form h, _, exec_of_form h s, rfl, sameMemory_formEffect rfl, simCtl_inte s.regs.a s.ctl, ?_⟩
  simp only [formEffect, State.setCtl_ctl, simCtl_eq]
  refine ⟨fun hon => ⟨if_pos hon, if_pos hon, if_pos hon⟩, fun hoff => ?_,
    fun hon => if_pos hon, fun hoff => if_neg (ne_true_of_eq_false hoff),
    fun hon => if_pos hon, fun hoff => if_neg (ne_true_of_eq_false hoff)⟩
  have hkept := ne_true_of_eq_false hoff
  exact ⟨if_neg hkept, if_neg hkept, if_neg hkept⟩

/-! ## NOP and HLT (R290, R291) -/

/-- The byte of HLT is fetched as HLT (R290). -/
theorem fetch_eq_hlt {s : State} (h : s.read s.pc = 0x76#8) : s.fetch = some .hlt := by
  rw [State.fetch, h]
  rfl

/-- Settles O32: HLT is a write to `halted`, after which there is no step because it raised no fault. -/
theorem nopDoesNothingAndHltHalts : Obligations.NopDoesNothingAndHltHalts := by
  refine ⟨fun _ s h => ⟨encode_of_form h, _, exec_of_form h s, rfl, fun _ => rfl⟩,
    fun _ s h => ⟨encode_of_form h, _, exec_of_form h s, rfl, fun _ => rfl⟩, fun s hrun hop => ?_⟩
  have hnofault : s.fault = none := hrun.1
  have hfault := (retire_formEffect_advance_fault .hlt s).trans hnofault
  exact ⟨_, step_of_running hrun (fetch_eq_hlt hop), rfl, step_of_halted hfault rfl⟩

end Sys2Proof.Machine
end

section
/-! SUPPORT. Where every run starts, the change of the control bits that the instructions but four carry along, and the statements of
60_exceptions.md that follow. -/

namespace Sys2Proof.Machine

/-! ## Every reachable state (R317, R330 to R332) -/

/-- A state in which a run starts satisfies the invariant: it has no fault, is not halted and has counted no step. -/
theorem inv_of_start {s : State} (hmem : s.mem.wf = true) (hi75 : s.ctl.i75 = false) (hhalted : s.halted = false)
    (hfault : s.fault = none) (hsteps : s.steps = 0) : Inv s where
  mem := hmem
  i75 := hi75
  exclusive hc := absurd (hhalted.symm.trans hc) Bool.false_ne_true
  illegal _ _ hr := nomatch hfault.symm.trans hr
  limit _ hr := nomatch hfault.symm.trans hr
  budget n _ := hsteps ▸ Nat.zero_le n

/-- The invariant holds in every reachable state: where runs start, and after every step. -/
theorem Reachable.inv {s : State} (h : Reachable s) : Inv s := by
  induction h with
  | launched _ _ hmem => exact inv_of_start hmem rfl rfl rfl rfl
  | poweredOn => exact inv_of_start State.reset_mem_wf rfl rfl rfl rfl
  | hardwareReset _ _ _ ih => exact inv_of_start ih.mem rfl rfl rfl rfl
  | stepped s t _ hs ih => exact everyStepKeepsTheInvariant s t ih hs

/-- Settles O50: the claims are parts of the invariant. -/
theorem reachableStatesAreFinishedOrFailedNotBoth : Obligations.ReachableStatesAreFinishedOrFailedNotBoth := fun _ h =>
  ⟨h.inv.exclusive, h.inv.i75, h.inv.mem, h.inv.illegal, h.inv.budget⟩

/-! ## Another control state (R307) -/

/-- The control bits changed by `g`: to given ones where `g` is constant, in INTE alone where `g` writes only that. -/
def State.mapCtl (s : State) (g : Ctl → Ctl) : State := { s with ctl := g s.ctl }

/-- INTE takes the value `b`. -/
def Ctl.withInte (b : Bool) (c : Ctl) : Ctl := { c with inte := b }

@[simp] theorem State.mapCtl_regRead (s : State) (g : Ctl → Ctl) (r : Reg8) : (s.mapCtl g).regRead r = s.regRead r := by
  cases r <;> rfl

@[simp] theorem State.mapCtl_regWrite (s : State) (g : Ctl → Ctl) (r : Reg8) (v : Byte) :
    (s.mapCtl g).regWrite r v = (s.regWrite r v).mapCtl g := by
  cases r <;> rfl

@[simp] theorem aluEffect_mapCtl (op : AluOp) (x : Byte) (s : State) (g : Ctl → Ctl) :
    aluEffect op x (s.mapCtl g) = (aluEffect op x s).mapCtl g := by
  cases op <;> rfl

/-- An instruction that neither reads nor writes the control bits carries their change along (R307). -/
theorem formEffect_mapCtl {f : Form} (hrim : f ≠ .rim) (hei : f ≠ .ei) (hdi : f ≠ .di) (hsim : f ≠ .sim) (s : State)
    (g : Ctl → Ctl) : formEffect f (s.mapCtl g) = (formEffect f s).mapCtl g := by
  cases f
  case rim | ei | di | sim => contradiction
  case mov dst src => simp [formEffect, State.moveReg]
  case mvi dst v => exact s.mapCtl_regWrite g dst v
  case alu op src => simp [formEffect]
  case aluImm op v => exact aluEffect_mapCtl op v s g
  case inr r | dcr r => cases r <;> rfl
  case lxi p _ | ldax p | stax p | inx p | dcx p | dad p => cases p <;> rfl
  case push p | pop p => cases p <;> rfl
  case jcond | ccond | rcond =>
    simp only [formEffect, State.jumpIf, State.callIf, State.returnIf, apply_ite (State.mapCtl · g)]
    rfl
  all_goals rfl

/-- SIM neither reads nor writes INTE (R293). -/
theorem formEffect_sim_mapCtl_withInte (s : State) (b : Bool) :
    formEffect .sim (s.mapCtl (Ctl.withInte b)) = (formEffect .sim s).mapCtl (Ctl.withInte b) := by
  simp [formEffect, State.setCtl, State.mapCtl, Ctl.withInte, simCtl_eq]

/-- A step carries the change of the control bits along if the instruction it executes does: the rest of the step does not read them. -/
theorem step_mapCtl {s t : State} {g : Ctl → Ctl}
    (hexec : ∀ i, s.fetch = some i →
      formEffect i.form ((s.advance i).mapCtl g) = (formEffect i.form (s.advance i)).mapCtl g)
    (ht : step s = .next t) : step (s.mapCtl g) = .next (t.mapCtl g) := by
  rcases step_cases s with ⟨_, -, hs⟩ | ⟨-, -, hs⟩ | ⟨hf, hh, hl, hs⟩ | ⟨hf, hh, hl, hi, hs⟩ | ⟨i, hf, hh, hl, hi, hs⟩
  all_goals cases hs.symm.trans ht
  · exact step_of_limit (s := s.mapCtl g) hf hh hl
  · exact step_of_illegal (s := s.mapCtl g) ⟨hf, hh, hl⟩ hi
  · have hstep := step_of_running (s := s.mapCtl g) ⟨hf, hh, hl⟩ hi
    exact hstep.trans (congrArg (fun u : State => Host.Outcome.next u.retire) (hexec i hi))

/-- The form of the fetched instruction is not that of another one. -/
theorem form_ne_of_fetch_ne {s : State} {i j : Instr} (h : s.fetch ≠ some j) (hi : s.fetch = some i) : i.form ≠ j.form :=
  fun hform => h (form_injective hform ▸ hi)

/-- Settles O55: the control bits are changed to others, or in INTE alone, which SIM carries along too. -/
theorem controlStateNeverInfluencesExecution : Obligations.ControlStateNeverInfluencesExecution := by
  refine ⟨fun i s t c hrim hei hdi hsim h => ?_, fun s t c hrim hei hdi hsim ht => ?_, fun s t b hrim hei hdi ht => ?_⟩
  · obtain rfl := eq_formEffect_of_exec h
    exact (exec_eq i _).trans (congrArg _ (formEffect_mapCtl hrim hei hdi hsim s fun _ => c))
  · refine step_mapCtl (g := fun _ => c) (fun i hi => ?_) ht
    exact formEffect_mapCtl (form_ne_of_fetch_ne hrim hi) (form_ne_of_fetch_ne hei hi) (form_ne_of_fetch_ne hdi hi)
      (form_ne_of_fetch_ne hsim hi) _ _
  · refine step_mapCtl (g := Ctl.withInte b) (fun i hi => ?_) ht
    by_cases hsim : i.form = .sim
    · rw [hsim]
      exact formEffect_sim_mapCtl_withInte _ b
    · exact formEffect_mapCtl (form_ne_of_fetch_ne hrim hi) (form_ne_of_fetch_ne hei hi) (form_ne_of_fetch_ne hdi hi) hsim _ _

/-! ## IllegalOpcode (R301) -/

/-- Settles O34: the fetch fails on these bytes, and a faulted state has no step. -/
theorem illegalOpcodeStepOnlySetsFault : Obligations.IllegalOpcodeStepOnlySetsFault := fun _ hrun hop =>
  ⟨step_of_illegal hrun (fetch_eq_none_iff.mpr hop), step_of_faulted rfl⟩

end Sys2Proof.Machine
end

section
/-! SUPPORT. The memory a hardware reset keeps, the draws that give the model's reset state back, and the statement of
70_reset_and_hazards.md that follows. -/

namespace Sys2Proof.Machine

/-! ## Hardware reset and launch (R330 to R333) -/

/-- A hardware reset changes no byte of memory (R332). -/
theorem sameMemory_hardwareReset (d : ResetDraws) (s : State) : SameMemory s (hardwareReset d s) := fun _ => rfl

/-- The reset draws that give back what `s` holds in every component a hardware reset does not set (R332). -/
def State.asResetDraws (s : State) : ResetDraws :=
  ⟨s.regs, s.sp, s.flags, s.ctl.m55, s.ctl.m65, s.ctl.m75, s.ctl.sod⟩

/-- The model's reset state is its own hardware reset with the draws it holds: the rest has the values that R332 sets. -/
theorem reset_eq_hardwareReset : State.reset = hardwareReset State.reset.asResetDraws State.reset := rfl

/-- Settles O47: each component is a value, a draw or a field of the image, and the reset state is the reset of itself. -/
theorem resetAndLaunchStartStates : Obligations.ResetAndLaunchStartStates := by
  refine ⟨fun d s t ht => ?reset, fun img startPc t ht => ?launch, ?model⟩
  case reset =>
    subst ht
    exact ⟨rfl, rfl, rfl, rfl, rfl, rfl, rfl, sameMemory_hardwareReset d s, rfl, rfl, rfl, rfl, rfl, rfl, rfl⟩
  case launch =>
    subst ht
    exact ⟨rfl, rfl, rfl, rfl, rfl, rfl, rfl, rfl, rfl, rfl⟩
  case model => exact ⟨_, _, reset_eq_hardwareReset, rfl, rfl⟩

end Sys2Proof.Machine
end

section
/-! SUPPORT. The sample words of the encoding rules, and the invariant where the machine is powered on. -/

namespace Sys2Proof.Machine

/-! ## Sample words (30_encoding.md section 3) -/

/-- The bytes that encode an instruction decode to it and to nothing more. -/
theorem decode_eq_ok_of_encode_eq {i : Instr} {bytes : List Byte} (h : encode i = bytes) : decode bytes = .ok i [] := by
  rw [← h, ← List.append_nil (encode i)]
  exact decodeInvertsEncode i []

/-- Settles O42: each sample word is its instruction's encoding. -/
theorem sampleWordsDecode : Obligations.SampleWordsDecode := by
  refine ⟨?_, ?_, ?_, ?_, ?_, ?_, ?_, ?_, ?_⟩ <;> exact decode_eq_ok_of_encode_eq rfl

/-! ## The reset state -/

/-- Settles O48: the reset state is where a run starts, and the invariant holds in every state of a run. -/
theorem resetSatisfiesTheInvariant : Obligations.ResetSatisfiesTheInvariant := Reachable.poweredOn.inv

end Sys2Proof.Machine
end
